-- ==== Sys2Proof/Word.lean ====
section
/-! DEFINITION. The word types of the block: 32-bit host words (spec R7, R71), bytes of the queues and
replies (R9), the 7-bit characters of the serial line (R7, R112). -/

namespace Sys2Proof

/-- A host bus word (R71). -/
abbrev Word := BitVec 32

/-- A byte of the Receive Buffer, the serial input queue and the replies (R7, R9). -/
abbrev Byte := BitVec 8

/-- A character of the serial line: seven data bits (R112). -/
abbrev Char7 := BitVec 7

/-- A byte offset inside the 4 KiB register window (R70, R71). -/
abbrev Offset := BitVec 12

end Sys2Proof
end

