-- ==== Sys2Proof/Config.lean ====
section
/-! DEFINITION. The fixed parameters of the block (spec R6) and the two values the spec leaves to others:
the platform's base address and what the environment drives on `rxd`. The parameters a model may vary
(CLK_HZ, RXQ_DEPTH, MARK_BITS) are the plain-data field `params` of the state (log 2). -/

namespace Sys2Proof.Config

/-- `FIFO_DEPTH` (R6, R140). -/
abbrev fifoDepth : Nat := 64

/-- `TXBUF_BYTES` (R6, R32). -/
abbrev txbufBytes : Nat := 16

/-- `SEND_LISTEN_MS` (R6, R183). -/
abbrev sendListenMs : Nat := 1000

/-- `DEFAULT_ATTEMPTS` (R6, R29). -/
abbrev defaultAttempts : Nat := 2

/-- `MAX_BLOCKS` (R6, R258). -/
abbrev maxBlocks : Nat := 2

/-- `FIELDS_PER_BLOCK` (R6, R258). -/
abbrev fieldsPerBlock : Nat := 3

/-- `FIELD_WIDTH` (R6, R117). -/
abbrev fieldWidth : Nat := 8

/-- `RAW_BYTES` (R6, R35). -/
abbrev rawBytes : Nat := 68

/-- `BASE` (R6, D3, OPEN): where the platform puts the register window. The block sees only the 12-bit
offset (R220), so nothing of the machine reads it (log 14). -/
opaque base : Nat

/-- The level the environment drives on `rxd` in a cycle for which the state lists no sample: a free value
(spec 93 U12, R13), applied to the counter `State.draws` (log 4). -/
opaque freeRxd : Nat → Bool

end Sys2Proof.Config
end

