-- ==== Sys2Proof/Syntax.lean ====
section
/-! DEFINITION. The instructions: the thirteen host operations of spec/opcode_table.json, and the host bus
access in which the machine meets them (R11, R71). -/

namespace Sys2Proof

/-- BusMode (R21, R106). -/
inductive BusMode where
  | disabled
  | holding
  | transmitting
  | listening
  deriving DecidableEq, Repr

/-- The 2-bit encoding of BusMode (R21). -/
def BusMode.toBits : BusMode → BitVec 2
  | .disabled => 0
  | .holding => 1
  | .transmitting => 2
  | .listening => 3

/-- The BusMode a 2-bit field names; every value is legal (R21, R106). -/
def BusMode.ofBits (m : BitVec 2) : BusMode :=
  match m.toNat with
  | 0 => .disabled
  | 1 => .holding
  | 2 => .transmitting
  | _ => .listening

/-- One host bus access: a 32-bit read or write at a 12-bit byte offset (R71). -/
inductive BusAccess where
  | read (addr : Offset)
  | write (addr : Offset) (data : Word)
  deriving DecidableEq, Repr

/-- One constructor per row of spec/opcode_table.json. -/
inductive Instr where
  /-- SETMODE: `setMode(target)` (R173). -/
  | setmode (mode : BusMode)
  /-- BEGIN: `begin()` (R174). -/
  | busBegin
  /-- END: `end()` (R175). -/
  | busEnd
  /-- SETACTIVE: `setActive()` (R176). -/
  | setactive
  /-- WAKE: `wake()` (R177). -/
  | wake
  /-- SENDCMD: `sendCommand(cmd)` (R183). -/
  | sendcmd
  /-- LISTEN: `listen(timeout, echoToStrip)` with the ECHO field (R184, R109). -/
  | listen (echo : Bool)
  /-- FLUSH: `flush()` (R185). -/
  | flush
  /-- POLL: `poll(kind, address)` with the KIND and ADDR fields, every value of either (R251, R107, R108). -/
  | poll (kind : BitVec 2) (addr : Byte)
  /-- RXDATA: the port read `read()` (R186). -/
  | rxdata
  /-- RXPEEK: the port read `peek()` (R187). -/
  | rxpeek
  /-- RXAVAIL: the port read `available()` (R188). -/
  | rxavail
  /-- CLRERR: a write of `value` to STATUS (R189). -/
  | clrerr (value : Word)
  deriving DecidableEq, Repr

/-- The mnemonic of the instruction's row. -/
def Instr.mnemonic : Instr → String
  | .setmode _ => "SETMODE"
  | .busBegin => "BEGIN"
  | .busEnd => "END"
  | .setactive => "SETACTIVE"
  | .wake => "WAKE"
  | .sendcmd => "SENDCMD"
  | .listen _ => "LISTEN"
  | .flush => "FLUSH"
  | .poll _ _ => "POLL"
  | .rxdata => "RXDATA"
  | .rxpeek => "RXPEEK"
  | .rxavail => "RXAVAIL"
  | .clrerr _ => "CLRERR"

end Sys2Proof
end

