-- ==== Sys2Proof/WellFormed.lean ====
section
/-! DEFINITION. The command table (R102) and what makes a command word well formed: an assigned opcode
(R103) and no 1 outside the opcode's free fields (R104). The operands of `Instr` carry their bounds in their
types (a BusMode, a Bool, a 2-bit KIND, an 8-bit ADDR, a 32-bit word, each value of which the decoder admits:
R106 to R109), so an instruction has no further check of its own. -/

namespace Sys2Proof

/-- A row of the table of R102. -/
structure OpRow where
  mnemonic : String
  op : BitVec 4
  pattern : Word
  mask : Word
  deriving DecidableEq, Repr

/-- The table of R102 with the opcodes of R101. -/
def opTable : List OpRow :=
  [ ⟨"SETMODE", 0x1, 0x00000001, 0xFFFFFFCF⟩,
    ⟨"BEGIN", 0x2, 0x00000002, 0xFFFFFFFF⟩,
    ⟨"END", 0x3, 0x00000003, 0xFFFFFFFF⟩,
    ⟨"SETACTIVE", 0x4, 0x00000004, 0xFFFFFFFF⟩,
    ⟨"WAKE", 0x5, 0x00000005, 0xFFFFFFFF⟩,
    ⟨"SENDCMD", 0x6, 0x00000006, 0xFFFFFFFF⟩,
    ⟨"LISTEN", 0x7, 0x00000007, 0xFFFFFFBF⟩,
    ⟨"FLUSH", 0x8, 0x00000008, 0xFFFFFFFF⟩,
    ⟨"POLL", 0x9, 0x00000009, 0xFF00FCFF⟩ ]

/-- OP, bits 3:0 of a command word (R100). -/
def opOf (w : Word) : BitVec 4 := w.extractLsb' 0 4

/-- Check 1: the opcode is one of 0x1 to 0x9 (R101, R103). -/
def opcodeAssigned (w : Word) : Bool := opTable.any fun r => r.op == opOf w

/-- Check 2: no bit outside the free fields of the opcode's row is set (R102, R104). -/
def reservedClear (w : Word) : Bool := opTable.any fun r => r.op == opOf w && w &&& r.mask == r.pattern

/-- A command word that encodes an instruction (R102). -/
def wordWellFormed (w : Word) : Bool := opcodeAssigned w && reservedClear w

/-- A host access whose every part is well formed: a write to CMD carries a well-formed word; any other
access has nothing to check (R71, R73). -/
def accessWellFormed : BusAccess → Bool
  | .write a w => if a.toNat / 4 = 0 then wordWellFormed w else true
  | .read _ => true

end Sys2Proof
end

