-- ==== Sys2Proof/Decode.lean ====
section
/-! DEFINITION. Decoding a host access into an instruction, total and rejecting by name (R100 to R105, R186 to
R189), the encoder written from the same tables, and the two readings of a word of spec/opcode_table.json. -/

namespace Sys2Proof

/-- Why an access is no instruction. -/
inductive DecodeError where
  /-- The word's OP is 0x0 or 0xA to 0xF: the machine answers Reject(2) (R103). -/
  | badOpcode
  /-- A reserved bit of the word is 1: the machine answers Reject(3) (R104). -/
  | reservedBits
  /-- A read or write of a register that is no row of the table: a plain register access (R72, R73). -/
  | plainRegister
  deriving DecidableEq, Repr

/-- The word index of an offset: bits 1:0 are ignored (R71). -/
def regIndex (a : Offset) : Nat := a.toNat / 4

/-- The instruction of a word whose opcode is assigned, with its operand fields (R100, R101). -/
def instrOf (w : Word) : Instr :=
  match (opOf w).toNat with
  | 1 => .setmode (BusMode.ofBits (w.extractLsb' 4 2))
  | 2 => .busBegin
  | 3 => .busEnd
  | 4 => .setactive
  | 5 => .wake
  | 6 => .sendcmd
  | 7 => .listen (w.getLsbD 6)
  | 8 => .flush
  | _ => .poll (w.extractLsb' 8 2) (w.extractLsb' 16 8)

/-- The decode of a command word: opcode first, then the reserved bits (R105). -/
def decodeCmd (w : Word) : Except DecodeError Instr :=
  if opcodeAssigned w = false then .error .badOpcode
  else if reservedClear w = false then .error .reservedBits
  else .ok (instrOf w)

/-- The decode of a host access: the command word at CMD, the STATUS write, the three read ports (R101, R72). -/
def decode : BusAccess → Except DecodeError Instr
  | .write a w =>
    if regIndex a = 0x00 then decodeCmd w
    else if regIndex a = 0x01 then .ok (.clrerr w)
    else .error .plainRegister
  | .read a =>
    if regIndex a = 0x0C then .ok .rxdata
    else if regIndex a = 0x0D then .ok .rxpeek
    else if regIndex a = 0x0E then .ok .rxavail
    else .error .plainRegister

/-- The command word with opcode `op` and every operand field zero (R100). -/
def opWord (op : BitVec 4) : Word := op.setWidth 32

/-- The command word of POLL: `0x09 | (k << 8) | (addr << 16)` (R122). -/
def pollWord (kind : BitVec 2) (addr : Byte) : Word :=
  (0#8 : BitVec 8) ++ addr ++ (0#6 : BitVec 6) ++ kind ++ (0#4 : BitVec 4) ++ (9#4 : BitVec 4)

/-- The command word of SETMODE (R100). -/
def setmodeWord (mode : BusMode) : Word :=
  (0#26 : BitVec 26) ++ mode.toBits ++ (1#4 : BitVec 4)

/-- The command word of LISTEN (R100). -/
def listenWord (echo : Bool) : Word :=
  (0#25 : BitVec 25) ++ BitVec.ofBool echo ++ (0#2 : BitVec 2) ++ (7#4 : BitVec 4)

/-- The access that presents an instruction, address bits 1:0 zero (R101, R72). -/
def encode : Instr → BusAccess
  | .setmode m => .write 0x000 (setmodeWord m)
  | .busBegin => .write 0x000 (opWord 0x2)
  | .busEnd => .write 0x000 (opWord 0x3)
  | .setactive => .write 0x000 (opWord 0x4)
  | .wake => .write 0x000 (opWord 0x5)
  | .sendcmd => .write 0x000 (opWord 0x6)
  | .listen e => .write 0x000 (listenWord e)
  | .flush => .write 0x000 (opWord 0x8)
  | .poll k a => .write 0x000 (pollWord k a)
  | .rxdata => .read 0x030
  | .rxpeek => .read 0x034
  | .rxavail => .read 0x038
  | .clrerr v => .write 0x004 v

/-- The access a word of spec/opcode_table.json stands for. A row of more than 16 bits is a command word,
written to CMD. A row of at most 16 bits is a 12-bit offset: the STATUS row is a write, its operand word zero;
any other offset is a read (the "format" of each row; log 12). -/
def tableAccess (nbits w : Nat) : BusAccess :=
  if nbits ≤ 16 then
    if regIndex (BitVec.ofNat 12 w) = 0x01 then .write (BitVec.ofNat 12 w) 0 else .read (BitVec.ofNat 12 w)
  else .write 0x000 (BitVec.ofNat 32 w)

/-- The instruction the decoder reads from a word of spec/opcode_table.json; none where it refuses, and
none for a number that does not fit the offset (R70) or the command word (R120). -/
def decodeTableWord (nbits w : Nat) : Option Instr :=
  if w < (if nbits ≤ 16 then 2 ^ 12 else 2 ^ 32) then
    match decode (tableAccess nbits w) with
    | .ok i => some i
    | .error _ => none
  else none

end Sys2Proof
end

