-- ==== Sys2Proof/Machine/State.lean ====
section
/-! DEFINITION. The state of the block as plain data (spec 10_state.md), its reset values (R40, R370), and the
reasons a step can stop. The record follows the groups of R20; the model's own fields are named as such
(logs 2 to 5). -/

namespace Sys2Proof.Machine

/-- Why the machine would stop with a fault. There is no such reason: "Nothing in the window traps" (R73) and
no condition stops the block (60_exceptions.md, introduction), so the type has no constructor. -/
inductive Fault
  deriving DecidableEq, Repr

/-- Why an instruction would have no meaning. -/
inductive Refusal where
  /-- An arm of `exec` without a meaning, by the table's mnemonic; no arm of this model raises it. Safe: the
  machine stops where the hardware goes on. -/
  | notModelled (mnemonic : String)
  deriving DecidableEq, Repr

/-- The parameters a model takes as arguments (R6, spec 93 U3, U5, U6). No step changes them (log 2). -/
structure Params where
  /-- CLK_HZ is `6000 * (clkScale + 1)`: the positive multiples of 6000 (R6, D2). -/
  clkScale : Nat
  /-- RXQ_DEPTH is `rxqDepthPred + 1`: the values 1 to 255 (R6, D10). -/
  rxqDepthPred : Fin 255
  /-- MARK_BITS (R6, D15). -/
  markBits : Nat
  deriving DecidableEq, Repr

/-- Six like things, one per value of a reading (R6 `NVALUES`, R35, R38). -/
structure Six (α : Type) where
  x0 : α
  x1 : α
  x2 : α
  x3 : α
  x4 : α
  x5 : α
  deriving DecidableEq, Repr

/-- Six equal elements. -/
def sixOf {α : Type} (x : α) : Six α := ⟨x, x, x, x, x, x⟩

/-- STATUS bits that are storage (R25). -/
structure ErrFlags where
  cmdErr : Bool
  errCause : BitVec 3
  actResult : Bool
  deriving DecidableEq, Repr

/-- The RW registers, field by field (R26, R28 to R32). -/
structure HostRegs where
  breakEn : Bool
  rs485 : Bool
  strictBlk : Bool
  ltMs : BitVec 16
  issueAttempts : BitVec 4
  blockAttempts : BitVec 4
  rpMs : BitVec 10
  txlen : BitVec 5
  txbuf0 : Word
  txbuf1 : Word
  txbuf2 : Word
  txbuf3 : Word
  deriving DecidableEq, Repr

/-- The Receive Buffer: contents and overflow latch (R24). -/
structure Fifo where
  q : List Byte
  ovf : Bool
  deriving DecidableEq, Repr

/-- The rate of the serial port (R222). -/
inductive Rate where
  /-- 1200 baud. -/
  | normal
  /-- 600 baud. -/
  | slow
  deriving DecidableEq, Repr

/-- The transmitter (R36, R223): idle; a frame with its rate, its ten bits, the index of the bit on the line
and the cycles that bit has been on the line; or the cycles left of the post-break mark. -/
inductive TxState where
  | idle
  | frame (rate : Rate) (bits : BitVec 10) (bit : Nat) (cyc : Nat)
  | mark (left : Nat)
  deriving DecidableEq, Repr

/-- The receiver (R36, R227, R228). RX_FRAME holds its rate, the index of the next sample (0 the start check,
1 to 7 the data bits, 8 parity, 9 stop), the cycles since the last sample point, and the data so far. -/
inductive RxState where
  | off
  | waitHigh
  | hunt
  | frame (rate : Rate) (sample : Nat) (cyc : Nat) (data : Char7)
  deriving DecidableEq, Repr

/-- The line side (R21, R23, R36). -/
structure Line where
  mode : BusMode
  owner : Bool
  rxq : List Byte
  rxqOvr : Bool
  rate : Rate
  tx : TxState
  rx : RxState
  deriving DecidableEq, Repr

/-- `xseq` (R27, R170). -/
inductive XSeq where
  | idle
  | wake
  | brk
  | mark
  | write
  | lstart
  | listen
  deriving DecidableEq, Repr

/-- `xcaller` (R37). No rule reads it. -/
inductive Caller where
  | host
  | engine
  deriving DecidableEq, Repr

/-- The transport sequencer (R37). -/
structure Xport where
  seq : XSeq
  caller : Caller
  /-- `cmdl[0..15]`, sixteen 7-bit characters. -/
  cmdl : List Char7
  cmdlLen : Nat
  echoLen : Nat
  ltCycles : Nat
  idle : Nat
  wi : Nat
  sendThenListen : Bool
  breakEn : Bool
  deriving DecidableEq, Repr

/-- `pseq` (R27, R250). -/
inductive PSeq where
  | idle
  | start
  | issueSend
  | issueCheck
  | readyListen
  | readyCheck
  | dataSend
  | dataCheck
  | convert
  | finish
  deriving DecidableEq, Repr

/-- The engine sequencer (R38), with `cmdp` (R252) and the result code (R10), log 11. -/
structure Engine where
  seq : PSeq
  kind : BitVec 2
  addr : Byte
  ia : BitVec 4
  ba : BitVec 4
  rp : BitVec 10
  strict : Bool
  tries : BitVec 4
  b : Nat
  count : Nat
  resp : List Byte
  srqA : Byte
  srqT : BitVec 10
  srqN : BitVec 4
  fields : Six (List Byte)
  blkOk0 : Bool
  blkOk1 : Bool
  t0 : Nat
  cmdp : List Byte
  result : BitVec 4
  deriving DecidableEq, Repr

/-- POLL_STATUS (R33). -/
structure PollStatus where
  done : Bool
  phase : BitVec 3
  result : BitVec 4
  blk0Fail : Bool
  blk1Fail : Bool
  ncf : Bool
  ovfSeen : Bool
  readyEarly : Bool
  kind : BitVec 2
  issueTries : BitVec 4
  blk0Tries : BitVec 4
  blk1Tries : BitVec 4
  deriving DecidableEq, Repr

/-- SRQ (R34). -/
structure Srq where
  addr : Byte
  ttt : BitVec 10
  n : BitVec 4
  valid : Bool
  deriving DecidableEq, Repr

/-- One reading bank (R35). `raw` is the 68-byte window. -/
structure Bank where
  valid : Bool
  addr : Byte
  rawLen : BitVec 7
  valdec : Six Word
  valf64 : Six (BitVec 64)
  raw : List Byte
  deriving DecidableEq, Repr

/-- The host side of one coming cycle: the level of `rst_n`, and the access presented, if any (R71, R220). -/
structure HostCycle where
  rstN : Bool
  access : Option BusAccess
  deriving DecidableEq, Repr

/-- No reset and no access. -/
def quietCycle : HostCycle := ⟨true, none⟩

/-- The state of the machine at the start of a cycle. -/
structure State where
  /-- The model's own: the parameters (log 2). -/
  params : Params
  err : ErrFlags
  regs : HostRegs
  fifo : Fifo
  line : Line
  xport : Xport
  engine : Engine
  poll : PollStatus
  srq : Srq
  /-- Bank 0 (R35). -/
  moisture : Bank
  /-- Bank 1 (R35). -/
  temperature : Bank
  /-- Cycles since reset release (R10, R350). -/
  now : Nat
  /-- The model's own: `bus_rdata` of the latest read cycle (log 5). -/
  rdata : Word
  /-- The model's own: the coming cycles of the host (log 3). -/
  host : List HostCycle
  /-- The model's own: the coming samples of `rxd` (log 4). -/
  rxd : List Bool
  /-- The model's own: the counter of the free value of `rxd` (log 4). -/
  draws : Nat
  deriving DecidableEq, Repr

/-- POLL_STATUS with every field 0 (R33, R40). -/
def pollClear : PollStatus :=
  { done := false, phase := 0, result := 0, blk0Fail := false, blk1Fail := false, ncf := false,
    ovfSeen := false, readyEarly := false, kind := 0, issueTries := 0, blk0Tries := 0, blk1Tries := 0 }

/-- SRQ with every field 0 (R34, R40). -/
def srqClear : Srq := { addr := 0, ttt := 0, n := 0, valid := false }

/-- A bank with every field 0: no reading yet (R35). -/
def bankClear : Bank :=
  { valid := false, addr := 0, rawLen := 0, valdec := sixOf 0, valf64 := sixOf 0,
    raw := List.replicate 68 0 }

/-- The machine right after reset (R40, R370). The parameters, `rdata`, `draws`, `cmdp` and the engine's result
code are the model's choice: logs 2, 4, 5, 11. -/
def State.reset : State :=
  { params := { clkScale := 0, rxqDepthPred := 15, markBits := 0 }
    err := { cmdErr := false, errCause := 0, actResult := false }
    regs :=
      { breakEn := true, rs485 := false, strictBlk := false, ltMs := 1000, issueAttempts := 2,
        blockAttempts := 2, rpMs := 100, txlen := 0, txbuf0 := 0, txbuf1 := 0, txbuf2 := 0, txbuf3 := 0 }
    fifo := { q := [], ovf := false }
    line :=
      { mode := .disabled, owner := false, rxq := [], rxqOvr := false, rate := .normal, tx := .idle,
        rx := .off }
    xport :=
      { seq := .idle, caller := .host, cmdl := List.replicate 16 0, cmdlLen := 0, echoLen := 0,
        ltCycles := 0, idle := 0, wi := 0, sendThenListen := false, breakEn := false }
    engine :=
      { seq := .idle, kind := 0, addr := 0, ia := 0, ba := 0, rp := 0, strict := false, tries := 0, b := 0,
        count := 0, resp := [], srqA := 0, srqT := 0, srqN := 0, fields := sixOf [], blkOk0 := false,
        blkOk1 := false, t0 := 0, cmdp := [], result := 0 }
    poll := pollClear
    srq := srqClear
    moisture := bankClear
    temperature := bankClear
    now := 0
    rdata := 0
    host := []
    rxd := []
    draws := 0 }

end Sys2Proof.Machine
end

