-- ==== Sys2Proof/Machine/Bytes.lean ====
section
/-! DEFINITION. Byte helpers: ASCII codes, digits, slices (R9, R300), and the decimal text of naturals. -/

namespace Sys2Proof.Machine

/-- The ASCII byte of a character literal (R9). -/
def ascii (c : Char) : Byte := BitVec.ofNat 8 c.toNat

/-- The bytes of a string literal, given as its characters (R9). -/
def bytes (s : List Char) : List Byte := s.map ascii

/-- CR (R9). -/
abbrev cr : Byte := 0x0D

/-- LF (R9). -/
abbrev lf : Byte := 0x0A

/-- NUL (R9). -/
abbrev nul : Byte := 0x00

/-- The half-open slice `s[i:j)`, clipped to the sequence (R9). -/
def slice {α : Type} (s : List α) (i j : Nat) : List α := (s.take j).drop i

/-- Byte `i` of a sequence; 0 past its end, which no rule reads (R9). -/
def at' (s : List Byte) (i : Nat) : Byte := s.getD i 0

/-- Whether a byte is one of '0' to '9' (R300). -/
def isDigit (x : Byte) : Bool := 0x30 ≤ x.toNat && x.toNat ≤ 0x39

/-- `dig(x) = x - 0x30` (R300). -/
def dig (x : Byte) : Nat := x.toNat - 0x30

/-- The digit byte of `d < 10` (R119, R300). -/
def digitByte (d : Nat) : Byte := BitVec.ofNat 8 (0x30 + d)

/-- The value of a digit string, most significant digit first; 0 of the empty string (R300). -/
def decVal (d : List Byte) : Nat := d.foldl (fun n x => 10 * n + dig x) 0

/-- The `k`-digit decimal text of `n`, leading zeros kept (R308). -/
def fixedText : Nat → Nat → List Byte
  | 0, _ => []
  | k + 1, n => fixedText k (n / 10) ++ [digitByte (n % 10)]

/-- The decimal text of `n` without leading zeros, computed with `fuel`; `fuel = n` is always enough. -/
def decimalFuel : Nat → Nat → List Byte
  | 0, n => [digitByte (n % 10)]
  | fuel + 1, n => if n < 10 then [digitByte n] else decimalFuel fuel (n / 10) ++ [digitByte (n % 10)]

/-- `decimal(I)`: the text of `I` with no leading zeros, "0" for 0 (R308). -/
def decimalText (n : Nat) : List Byte := decimalFuel n n

end Sys2Proof.Machine
end

