-- ==== Sys2Proof/Machine/Operands.lean ====
section
/-! DEFINITION. Operands and times: the clock-derived parameters (R6, R222), the bytes of TXBUF (R32, R74), the
command latch (R84, R183), and the frames and commands put on the line (R112, R114, R115). -/

namespace Sys2Proof.Machine

/-- CLK_HZ (R6, D2). -/
def clkHz (p : Params) : Nat := 6000 * (p.clkScale + 1)

/-- RXQ_DEPTH, from 1 to 255 (R6, D10). -/
def rxqDepth (p : Params) : Nat := p.rxqDepthPred.val + 1

/-- TICK_CYCLES: cycles per millisecond (R6). -/
def tickCycles (p : Params) : Nat := clkHz p / 1000

/-- BIT_CYCLES: cycles per bit at 1200 baud (R6). -/
def bitCycles (p : Params) : Nat := clkHz p / 1200

/-- `bit_cycles(rate)` (R222). -/
def bitCyclesAt (p : Params) : Rate → Nat
  | .normal => bitCycles p
  | .slow => 2 * bitCycles p

/-- The listen timeout of a send, in cycles (R183, R266). -/
def sendListenCycles (p : Params) : Nat := Config.sendListenMs * tickCycles p

/-- `elapsed_ms(t0)` (R10, R350). -/
def elapsedMs (s : State) (t0 : Nat) : Nat := (s.now - t0) / tickCycles s.params

/-- Byte lane `i mod 4` of a word (R74). -/
def laneByte (w : Word) (i : Nat) : Byte := w.extractLsb' (8 * (i % 4)) 8

/-- The four bytes of a word, lane 0 first (R74). -/
def wordBytes (w : Word) : List Byte := [laneByte w 0, laneByte w 1, laneByte w 2, laneByte w 3]

/-- `txbuf[0..15]` (R32, R74). -/
def txbufBytes (r : HostRegs) : List Byte :=
  wordBytes r.txbuf0 ++ wordBytes r.txbuf1 ++ wordBytes r.txbuf2 ++ wordBytes r.txbuf3

/-- TXLEN.LEN (R31). -/
def txLen (r : HostRegs) : Nat := r.txlen.toNat

/-- A byte with bit 7 cleared, as the seven bits that are sent (R183, D58). -/
def low7 (x : Byte) : Char7 := x.setWidth 7

/-- A delivered character: bit 7 is 0 (R229). -/
def byteOf (c : Char7) : Byte := c.setWidth 8

/-- The characters `txbuf[0:LEN)`, bit 7 cleared (R84, R183). -/
def txChars (r : HostRegs) : List Char7 := ((txbufBytes r).take (txLen r)).map low7

/-- Write `cs` to `cmdl[0:|cs|)`; the rest of the latch keeps its value (R183, R184, R266). -/
def latchChars (cs old : List Char7) : List Char7 := cs ++ old.drop cs.length

/-- The echo pattern `cmdl[0:echo_len)` as bytes (R37, R182). -/
def echoPattern (x : Xport) : List Byte := (x.cmdl.take x.echoLen).map byteOf

/-- The even-parity bit of a character (R112). -/
def parityBit (c : Char7) : Bool :=
  c.getLsbD 0 ^^ c.getLsbD 1 ^^ c.getLsbD 2 ^^ c.getLsbD 3 ^^ c.getLsbD 4 ^^ c.getLsbD 5 ^^ c.getLsbD 6

/-- The ten bits of a character's frame, bit 0 first on the line: start 0, d0 to d6, parity, stop 1 (R112). -/
def frameBits (c : Char7) : BitVec 10 :=
  (1#1 : BitVec 1) ++ BitVec.ofBool (parityBit c) ++ c ++ (0#1 : BitVec 1)

/-- The start-measurement command `[a, 'M', '0' + kind, '!']` (R114, R119). -/
def startCommand (addr : Byte) (kind : BitVec 2) : List Byte :=
  [addr, 0x4D, 0x30 + kind.setWidth 8, 0x21]

/-- The data command `['0', 'D', '0' + b, '!']`, with a literal '0' (R115, conflict C8). -/
def dataCommand (b : Nat) : List Byte := [0x30, 0x44, 0x30 + BitVec.ofNat 8 b, 0x21]

end Sys2Proof.Machine
end

