-- ==== Sys2Proof/Machine/Flags.lean ====
section
/-! DEFINITION. The host side of the cycle, the flags and the register words that are views of the state: STATUS (R25), CONFIG and the other RW
registers (R26, R28 to R31), POLL_STATUS (R33), SRQ (R34), the bank words (R35), the port words (R110, R111), and
the output pins (R39). -/

namespace Sys2Proof.Machine

/-- The host side of this cycle: the head of the list, or a quiet cycle when the list is exhausted (log 3). -/
def hostNow (s : State) : HostCycle := s.host.headD quietCycle

/-- `line_open = (mode != 0)` (R22). -/
def lineOpen (s : State) : Bool := s.line.mode != .disabled

/-- STATUS.PBUSY: a POLL runs (R25, R250). -/
def pbusy (s : State) : Bool := s.engine.seq != .idle

/-- STATUS.BUSY: a multi-cycle command runs (R25, R170). -/
def busy (s : State) : Bool := s.xport.seq != .idle || pbusy s

/-- STATUS.TX_ACTIVE (R25, R223). -/
def txActive (s : State) : Bool := s.line.tx != .idle

/-- STATUS.LISTEN_ACTIVE (R25). -/
def listenActive (s : State) : Bool := s.xport.seq == .listen

/-- The STATUS word (R25). -/
def statusWord (s : State) : Word :=
  BitVec.ofNat 8 s.line.rxq.length ++ BitVec.ofNat 8 s.fifo.q.length ++ (0#1 : BitVec 1) ++
  BitVec.ofBool (listenActive s) ++ BitVec.ofBool (txActive s) ++ BitVec.ofBool s.line.rxqOvr ++
  BitVec.ofBool s.err.actResult ++ s.err.errCause ++ BitVec.ofBool s.err.cmdErr ++
  BitVec.ofBool s.fifo.ovf ++ BitVec.ofBool (pbusy s) ++ BitVec.ofBool (busy s) ++
  BitVec.ofBool s.line.owner ++ BitVec.ofBool (lineOpen s) ++ s.line.mode.toBits

/-- The CONFIG word (R26). -/
def configWord (r : HostRegs) : Word :=
  (0#29 : BitVec 29) ++ BitVec.ofBool r.strictBlk ++ BitVec.ofBool r.rs485 ++ BitVec.ofBool r.breakEn

/-- The RETRY word (R29). -/
def retryWord (r : HostRegs) : Word := (0#24 : BitVec 24) ++ r.blockAttempts ++ r.issueAttempts

/-- The POLL_STATUS word (R33). -/
def pollStatusWord (p : PollStatus) : Word :=
  (0#4 : BitVec 4) ++ p.blk1Tries ++ p.blk0Tries ++ p.issueTries ++ (0#1 : BitVec 1) ++ p.kind ++
  BitVec.ofBool p.readyEarly ++ BitVec.ofBool p.ovfSeen ++ BitVec.ofBool p.ncf ++
  BitVec.ofBool p.blk1Fail ++ BitVec.ofBool p.blk0Fail ++ p.result ++ p.phase ++ BitVec.ofBool p.done

/-- The SRQ word (R34). -/
def srqWord (q : Srq) : Word :=
  BitVec.ofBool q.valid ++ (0#9 : BitVec 9) ++ q.n ++ q.ttt ++ q.addr

/-- The RD_STATUS word of a bank (R35). -/
def rdStatusWord (k : Bank) : Word :=
  (0#9 : BitVec 9) ++ k.rawLen ++ k.addr ++ (0#7 : BitVec 7) ++ BitVec.ofBool k.valid

/-- Element `j` of six, the last one for every `j` past 4. -/
def six {α : Type} (v : Six α) (j : Nat) : α :=
  match j with
  | 0 => v.x0
  | 1 => v.x1
  | 2 => v.x2
  | 3 => v.x3
  | 4 => v.x4
  | _ => v.x5

/-- RAW word `w` of a bank: four bytes of the window, little-endian by lane (R35, R74). -/
def rawWord (k : Bank) (w : Nat) : Word :=
  at' k.raw (4 * w + 3) ++ at' k.raw (4 * w + 2) ++ at' k.raw (4 * w + 1) ++ at' k.raw (4 * w)

/-- The bank register at word index `o` of the bank's part of the map; unmapped indices read 0 (R72, R73). -/
def bankWord (k : Bank) (o : Nat) : Word :=
  if o = 0 then rdStatusWord k
  else if 4 ≤ o ∧ o < 10 then six k.valdec (o - 4)
  else if 12 ≤ o ∧ o < 24 then
    if (o - 12) % 2 = 0 then (six k.valf64 ((o - 12) / 2)).extractLsb' 0 32
    else (six k.valf64 ((o - 12) / 2)).extractLsb' 32 32
  else if 24 ≤ o ∧ o < 41 then rawWord k (o - 24)
  else 0

/-- The word of a port that returned no byte: EMPTY = 1, DATA = 0 (R110). -/
def emptyWord : Word := 0x00000100

/-- The word of PEEK: the head of `Q`, or EMPTY (R187, R143, R110). -/
def peekWord (f : Fifo) : Word :=
  match f.q with
  | [] => emptyWord
  | x :: _ => x.setWidth 32

/-- The word of AVAILABLE: -1 while `ovf` is set, else the length (R188, R144, R111). -/
def availWord (f : Fifo) : Word := if f.ovf then 0xFFFFFFFF else BitVec.ofNat 32 f.q.length

/-- The word an RXDATA read returns: refused while BUSY (R186, R110). -/
def rxdataWord (s : State) : Word := if busy s then emptyWord else peekWord s.fifo

/-- The register at a word index of the window, as it stands at the start of the cycle (R71, R72, R73). -/
def readWord (s : State) (i : Nat) : Word :=
  if 64 ≤ i ∧ i < 128 then bankWord s.moisture (i - 64)
  else if 128 ≤ i ∧ i < 192 then bankWord s.temperature (i - 128)
  else match i with
    | 0x01 => statusWord s
    | 0x02 => configWord s.regs
    | 0x03 => s.regs.ltMs.setWidth 32
    | 0x04 => retryWord s.regs
    | 0x05 => s.regs.rpMs.setWidth 32
    | 0x06 => s.regs.txlen.setWidth 32
    | 0x07 => s.regs.txbuf0
    | 0x08 => s.regs.txbuf1
    | 0x09 => s.regs.txbuf2
    | 0x0A => s.regs.txbuf3
    | 0x0C => rxdataWord s
    | 0x0D => peekWord s.fifo
    | 0x0E => availWord s.fifo
    | 0x10 => pollStatusWord s.poll
    | 0x11 => srqWord s.srq
    | _ => 0

/-- The level of the transmitter on the line; a mark when no frame is in flight (R223, R224). -/
def txLevel : TxState → Bool
  | .idle => true
  | .frame _ bits bit _ => bits.getLsbD bit
  | .mark _ => true

/-- The `txd` pin in this cycle (R223, R224): 1 while `rst_n = 0` (R370). -/
def txd (s : State) : Bool := !(hostNow s).rstN || txLevel s.line.tx

/-- The `tx_en` pin in this cycle: Holding or Transmitting (R225), 0 while `rst_n = 0` (R370). -/
def txEn (s : State) : Bool :=
  (hostNow s).rstN && (s.line.mode == .holding || s.line.mode == .transmitting)

/-- The `rs485_mode` pin in this cycle (R226): 0 while `rst_n = 0` (R370). -/
def rs485Mode (s : State) : Bool := (hostNow s).rstN && s.regs.rs485

end Sys2Proof.Machine
end

