-- ==== Sys2Proof/Machine/Ops.lean ====
section
/-! DEFINITION. The shared operations: the six Receive Buffer operations (40_receive_buffer.md), the line primitives
(R171, R172), the serial input queue (R180, R230), starting a transmission (R223), rejecting a command and clearing
the rejection (R340, R189: the analogues of taking an exception and returning from it), the command frame of R105,
and the register writes (R72, R73). -/

namespace Sys2Proof.Machine

/-- The outcome type of the machine. -/
abbrev Result := Host.Outcome State Fault Refusal

/-! ### The Receive Buffer -/

/-- APPEND(x) (R141). -/
def fifoAppend (x : Byte) (f : Fifo) : Fifo :=
  if f.q.length < Config.fifoDepth then { f with q := f.q ++ [x] } else { f with ovf := true }

/-- The buffer after READ: the head is gone, `ovf` is cleared in both branches (R142, D18). -/
def fifoRead (f : Fifo) : Fifo := { q := f.q.drop 1, ovf := false }

/-- FLUSH_Q (R145). -/
def fifoFlush : Fifo := { q := [], ovf := false }

/-- The buffer after DRAIN; `ovf` is left (R146). -/
def fifoDrain (f : Fifo) : Fifo := { f with q := [] }

/-- What STRIP(P) makes of the drained bytes: one occurrence of P at position 0, else at position 1 (R182). -/
def stripEcho (p s : List Byte) : List Byte :=
  if p.length ≤ s.length ∧ slice s 0 p.length = p then s.drop p.length
  else if p.length + 1 ≤ s.length ∧ slice s 1 (p.length + 1) = p then s.take 1 ++ s.drop (p.length + 1)
  else s

/-- STRIP(P): drain, strip, re-buffer (R182). -/
def fifoStrip (p : List Byte) (f : Fifo) : Fifo := { fifoDrain f with q := stripEcho p f.q }

/-! ### The line -/

/-- OPEN_LINE (R171). -/
def openLine (l : Line) : Line := if l.mode = .disabled then { l with rx := .waitHigh } else l

/-- CLOSE_LINE (R171). -/
def closeLine (l : Line) : Line :=
  if l.mode = .disabled then l
  else { l with rxq := [], rxqOvr := false, rx := .off, tx := .idle, rate := .normal }

/-- SET_MODE(m), the only writer of `mode` (R172). -/
def setModeLine (m : BusMode) (l : Line) : Line :=
  match m with
  | .disabled => { closeLine l with mode := .disabled }
  | .holding => { openLine l with mode := .holding }
  | .transmitting => { openLine l with mode := .transmitting }
  | .listening => { openLine l with mode := .listening }

/-- SET_MODE(m) on the state (R172). -/
def setMode (m : BusMode) (s : State) : State := { s with line := setModeLine m s.line }

/-- RESET_INPUT (R180). -/
def resetInput (l : Line) : Line := { l with rxq := [], rxqOvr := false }

/-- `deliver(x)` (R230), where `len` is the length of the queue at the start of the cycle: the receiver reads the state as it
stood then (R80), and its effect falls on the queue as step 2 left it (log 8). -/
def deliver (p : Params) (len : Nat) (x : Byte) (l : Line) : Line :=
  if len < rxqDepth p then { l with rxq := l.rxq ++ [x] } else { l with rxqOvr := true }

/-- `tx_start(x)`: the frame of `x`, at the rate the line has now (R223). -/
def txStart (x : Char7) (l : Line) : Line := { l with tx := .frame l.rate (frameBits x) 0 0 }

/-- `tx_mark(n)`: a mark of `n * BIT_CYCLES` cycles (R223). -/
def txMark (p : Params) (n : Nat) (l : Line) : Line := { l with tx := .mark (n * bitCycles p) }

/-! ### Rejection, the exception of this block -/

/-- `raise Reject(k)`: CMD_ERR and ERR_CAUSE, nothing else (R340). -/
def reject (k : BitVec 3) (s : State) : State :=
  { s with err := { s.err with cmdErr := true, errCause := k } }

/-- CLRERR's effect, the return of this block: CMD_ERR and ERR_CAUSE to 0 (R189, R344). -/
def clearReject (s : State) : State :=
  { s with err := { s.err with cmdErr := false, errCause := 0 } }

/-- ERR_CAUSE of a CMD write while BUSY (R341). -/
abbrev causeBusy : BitVec 3 := 1

/-- ERR_CAUSE of a reserved opcode (R341). -/
abbrev causeBadOpcode : BitVec 3 := 2

/-- ERR_CAUSE of a reserved bit (R341). -/
abbrev causeReservedBits : BitVec 3 := 3

/-- ERR_CAUSE of a TXLEN over 16 (R341). -/
abbrev causeBadTxlen : BitVec 3 := 4

/-- A command word that the decoder refuses with `k`: BUSY is checked first (R105, R342). -/
def rejectWord (k : BitVec 3) (s : State) : State := if busy s then reject causeBusy s else reject k s

/-- A decoded command: Reject(1) while BUSY, Reject(4) when it uses TXBUF and TXLEN.LEN is over 16, else its
effect (R105). -/
def command (usesTxbuf : Bool) (effect : State → State) (s : State) : State :=
  if busy s then reject causeBusy s
  else if usesTxbuf && decide (Config.txbufBytes < txLen s.regs) then reject causeBadTxlen s
  else effect s

/-! ### The register window -/

/-- The host registers after a write at word index `i`; reserved bits and every other index ignore it (R72, R73). -/
def writeRegs (i : Nat) (v : Word) (r : HostRegs) : HostRegs :=
  match i with
  | 0x02 => { r with breakEn := v.getLsbD 0, rs485 := v.getLsbD 1, strictBlk := v.getLsbD 2 }
  | 0x03 => { r with ltMs := v.extractLsb' 0 16 }
  | 0x04 => { r with issueAttempts := v.extractLsb' 0 4, blockAttempts := v.extractLsb' 4 4 }
  | 0x05 => { r with rpMs := v.extractLsb' 0 10 }
  | 0x06 => { r with txlen := v.extractLsb' 0 5 }
  | 0x07 => { r with txbuf0 := v }
  | 0x08 => { r with txbuf1 := v }
  | 0x09 => { r with txbuf2 := v }
  | 0x0A => { r with txbuf3 := v }
  | _ => r

/-- A read or write of a register that is no row of the table: a read shows the register and has no side effect; a
write reaches the RW registers only (R71 to R73, R77). -/
def plainAccess : BusAccess → State → State
  | .read a, s => { s with rdata := readWord s (regIndex a) }
  | .write a v, s => { s with regs := writeRegs (regIndex a) v s.regs }

end Sys2Proof.Machine
end

