-- ==== Sys2Proof/Machine/Ports.lean ====
section
/-! DEFINITION. The host ports that have a row of the table: RXDATA, RXPEEK, RXAVAIL and the STATUS write CLRERR (R186 to
R189). -/

namespace Sys2Proof.Machine

/-- RXDATA: the word, and READ's effect on the buffer unless refused because BUSY (R186, R142). -/
def execRxdata (s : State) : Result :=
  .next { s with rdata := rxdataWord s, fifo := if busy s then s.fifo else fifoRead s.fifo }

/-- RXPEEK: the word, no side effect (R187). -/
def execRxpeek (s : State) : Result := .next { s with rdata := peekWord s.fifo }

/-- RXAVAIL: the word, no side effect (R188). -/
def execRxavail (s : State) : Result := .next { s with rdata := availWord s.fifo }

/-- CLRERR: a STATUS write clears the rejection when bit 7 of the word is 1 (R189). -/
def execClrerr (v : Word) (s : State) : Result := .next (if v.getLsbD 7 then clearReject s else s)

end Sys2Proof.Machine
end

