-- ==== Sys2Proof/Machine/SingleCycle.lean ====
section
/-! DEFINITION. The single-cycle commands SETMODE, BEGIN, END, SETACTIVE and FLUSH (R173 to R176, R185): each answers the
state after step 1 of its cycle. -/

namespace Sys2Proof.Machine

/-- `owner` and ACT_RESULT of an activation: ACT_RESULT says whether `owner` was 0 (R174, R176). -/
def activate (s : State) : State :=
  { s with
    line := { s.line with owner := true }
    err := { s.err with actResult := !s.line.owner } }

/-- SETMODE (R173). -/
def execSetmode (m : BusMode) (s : State) : Result := .next (command false (setMode m) s)

/-- BEGIN (R174). -/
def execBegin (s : State) : Result := .next (command false (fun t => activate (setMode .holding t)) s)

/-- The effect of END: SET_MODE(0); owner <- 0 (R175). -/
def endEffect (s : State) : State :=
  { s with line := { setModeLine .disabled s.line with owner := false } }

/-- END (R175). -/
def execEnd (s : State) : Result := .next (command false endEffect s)

/-- The effect of SETACTIVE: Holding and ACT_RESULT = 1 on the first call, else ACT_RESULT = 0 only (R176). -/
def setactiveEffect (s : State) : State :=
  if s.line.owner then activate s else activate (setMode .holding s)

/-- SETACTIVE (R176). -/
def execSetactive (s : State) : Result := .next (command false setactiveEffect s)

/-- The effect of FLUSH: FLUSH_Q (R185, R145). -/
def flushQ (s : State) : State := { s with fifo := fifoFlush }

/-- FLUSH (R185). -/
def execFlush (s : State) : Result := .next (command false flushQ s)

end Sys2Proof.Machine
end

