-- ==== Sys2Proof/Machine/Sequenced.lean ====
section
/-! DEFINITION. Acceptance of the sequenced commands WAKE, SENDCMD, LISTEN and POLL (R177, R183, R184, R251): every operand
is latched in the acceptance cycle (R84) and the sequencer leaves its idle state. -/

namespace Sys2Proof.Machine

/-- The acceptance of WAKE (R177). -/
def wakeEffect (s : State) : State :=
  { s with
    xport :=
      { s.xport with
        breakEn := s.regs.breakEn, sendThenListen := false, cmdlLen := 0, caller := .host, seq := .wake } }

/-- WAKE (R177). -/
def execWake (s : State) : Result := .next (command false wakeEffect s)

/-- The acceptance of SENDCMD (R183). -/
def sendcmdEffect (s : State) : State :=
  { s with
    xport :=
      { s.xport with
        cmdl := latchChars (txChars s.regs) s.xport.cmdl, cmdlLen := txLen s.regs, echoLen := txLen s.regs,
        wi := 0, breakEn := s.regs.breakEn, sendThenListen := true, ltCycles := sendListenCycles s.params,
        caller := .host, seq := .wake } }

/-- SENDCMD (R183). -/
def execSendcmd (s : State) : Result := .next (command true sendcmdEffect s)

/-- The acceptance of LISTEN (R184); CONFIG.BREAK_EN is latched as R84 says (log 10). -/
def listenEffect (echo : Bool) (s : State) : State :=
  { s with
    xport :=
      { s.xport with
        ltCycles := s.regs.ltMs.toNat * tickCycles s.params
        cmdl := if echo then latchChars (txChars s.regs) s.xport.cmdl else s.xport.cmdl
        echoLen := if echo then txLen s.regs else 0
        breakEn := s.regs.breakEn
        caller := .host
        seq := .lstart } }

/-- LISTEN (R184). -/
def execListen (echo : Bool) (s : State) : Result := .next (command echo (listenEffect echo) s)

/-- The acceptance of POLL (R251). -/
def pollEffect (kind : BitVec 2) (addr : Byte) (s : State) : State :=
  { s with
    engine :=
      { s.engine with
        kind := kind, addr := addr, ia := s.regs.issueAttempts, ba := s.regs.blockAttempts, rp := s.regs.rpMs,
        strict := s.regs.strictBlk, fields := sixOf [], blkOk0 := false, blkOk1 := false, seq := .start }
    xport := { s.xport with breakEn := s.regs.breakEn }
    poll := { pollClear with kind := kind }
    srq := srqClear }

/-- POLL (R251). -/
def execPoll (kind : BitVec 2) (addr : Byte) (s : State) : Result :=
  .next (command false (pollEffect kind addr) s)

end Sys2Proof.Machine
end

