-- ==== Sys2Proof/Machine/Dispatch.lean ====
section
/-! DEFINITION. One arm per instruction: step 1 of the cycle in which the host presents it. -/

namespace Sys2Proof.Machine

def exec (i : Instr) (s : State) : Host.Outcome State Fault Refusal :=
  match i with
  | .setmode m => Sys2Proof.Machine.execSetmode m s
  | .busBegin => Sys2Proof.Machine.execBegin s
  | .busEnd => Sys2Proof.Machine.execEnd s
  | .setactive => Sys2Proof.Machine.execSetactive s
  | .wake => Sys2Proof.Machine.execWake s
  | .sendcmd => Sys2Proof.Machine.execSendcmd s
  | .listen echo => Sys2Proof.Machine.execListen echo s
  | .flush => Sys2Proof.Machine.execFlush s
  | .poll kind addr => Sys2Proof.Machine.execPoll kind addr s
  | .rxdata => Sys2Proof.Machine.execRxdata s
  | .rxpeek => Sys2Proof.Machine.execRxpeek s
  | .rxavail => Sys2Proof.Machine.execRxavail s
  | .clrerr value => Sys2Proof.Machine.execClrerr value s

end Sys2Proof.Machine
end

