-- ==== Sys2Proof/Machine/Parsing.lean ====
section
/-! DEFINITION. The pure functions of 44_reply_parsing.md: reply acceptance (R301, R302, R311), the address set (R310),
numeric conversion (R303), the register and text forms of a value (R304, R305, R307 to R309). -/

namespace Sys2Proof.Machine

/-- Whether a reply ends in CR LF, for a reply of at least two bytes (R301, R302). -/
def endsCrLf (r : List Byte) : Bool := at' r (r.length - 2) == cr && at' r (r.length - 1) == lf

/-- PARSE_SRQ(r): address byte, TTT and N, read from the trailing end; `none` is FAIL (R301). -/
def parseSrq (r : List Byte) : Option (Byte × Nat × Nat) :=
  let l := r.length
  if l < 7 then none
  else if endsCrLf r = false then none
  else if (isDigit (at' r (l - 6)) && isDigit (at' r (l - 5)) && isDigit (at' r (l - 4))) = false then none
  else if (0x31 ≤ (at' r (l - 3)).toNat ∧ (at' r (l - 3)).toNat ≤ 0x39) then
    some (at' r (l - 7), decVal (slice r (l - 6) (l - 3)), dig (at' r (l - 3)))
  else none

/-- A field that PARSE_DATA admits: not empty, not headed by NUL (R302, D32). -/
def fieldOk (f : List Byte) : Bool :=
  match f with
  | [] => false
  | x :: _ => x != nul

/-- PARSE_DATA(r): the three fields at `[2:10)`, `[11:19)`, `[20:28)`; `none` is FAIL (R302). -/
def parseData (r : List Byte) : Option (List Byte × List Byte × List Byte) :=
  if r.length ≤ 3 then none
  else if endsCrLf r = false then none
  else if fieldOk (slice r 2 10) && fieldOk (slice r 11 19) && fieldOk (slice r 20 28) then
    some (slice r 2 10, slice r 11 19, slice r 20 28)
  else none

/-- IS_NOTICE(r, a): the reply begins with `[a, CR, LF]` (R311). -/
def isNotice (r : List Byte) (a : Byte) : Bool := r.take 3 == [a, cr, lf]

/-- `addr_valid(x)`: '0'..'9', 'A'..'Z', 'a'..'z' (R310). -/
def addrValid (x : Byte) : Bool :=
  isDigit x || (0x41 ≤ x.toNat && x.toNat ≤ 0x5A) || (0x61 ≤ x.toNat && x.toNat ≤ 0x7A)

/-- A decimal value `(-1)^neg * mant / 10^scale` (R303, R304). -/
structure Value where
  neg : Bool
  mant : Nat
  scale : Nat
  deriving DecidableEq, Repr

/-- The zero of R307. -/
def zeroValue : Value := ⟨false, 0, 0⟩

/-- Whether a field starts with a sign byte (R303). -/
def hasSign (f : List Byte) : Bool :=
  match f with
  | [] => false
  | x :: _ => x == 0x2B || x == 0x2D

/-- Whether a field starts with '-' (R303). -/
def isNegative (f : List Byte) : Bool :=
  match f with
  | [] => false
  | x :: _ => x == 0x2D

/-- The digits after a decimal point, and what follows them; no digits when there is no point (R303). -/
def fraction (rest : List Byte) : List Byte × List Byte :=
  match rest with
  | [] => ([], [])
  | x :: t => if x == 0x2E then (t.takeWhile isDigit, t.dropWhile isDigit) else ([], rest)

/-- NUMERIC(f): optional sign, digits, optional point and digits, at least one digit, nothing else; `none` is
FAIL (R303). -/
def numeric (f : List Byte) : Option Value :=
  let body := if hasSign f then f.drop 1 else f
  let d1 := body.takeWhile isDigit
  let d2 := (fraction (body.dropWhile isDigit)).1
  let left := (fraction (body.dropWhile isDigit)).2
  if left ≠ [] ∨ d1.length + d2.length = 0 then none
  else some ⟨isNegative f, decVal (d1 ++ d2), d2.length⟩

/-- DEC(v): the VALDEC word (R304). -/
def decWord (v : Value) : Word :=
  (0#1 : BitVec 1) ++ BitVec.ofBool v.neg ++ BitVec.ofNat 3 v.scale ++ BitVec.ofNat 27 v.mant

/-- The quotient `n / d` rounded to the nearest natural, ties to even (R305). -/
def roundDiv (n d : Nat) : Nat :=
  if 2 * (n % d) < d then n / d
  else if d < 2 * (n % d) then n / d + 1
  else if n / d % 2 = 0 then n / d else n / d + 1

/-- The binary shift that brings `m / d` into `[2^52, 2^53)`, for `m > 0` and `d > 0` (R305). -/
def f64Shift (m d : Nat) : Nat :=
  let k := 52 + Nat.log2 d - Nat.log2 m
  if m * 2 ^ k / d < 2 ^ 52 then k + 1 else k

/-- The magnitude of F64: exponent and significand packed as `(1074 - k) * 2^52 + q`, where `q` is the rounded
53-bit significand of `m / d` and `k` its shift (R305). -/
def f64Magnitude (m d : Nat) : Nat :=
  if m = 0 then 0
  else (1074 - f64Shift m d) * 2 ^ 52 + roundDiv (m * 2 ^ f64Shift m d) d

/-- F64(v): the binary64 number nearest to the value, ties to even, with the sign of the value (R305). -/
def f64Word (v : Value) : BitVec 64 :=
  BitVec.ofBool v.neg ++ BitVec.ofNat 63 (f64Magnitude v.mant (10 ^ v.scale))

/-- Trailing '0' characters removed, but at least one character kept (R308). -/
def trimZeros (fs : List Byte) : List Byte :=
  match (fs.reverse.dropWhile (· == 0x30)).reverse with
  | [] => [0x30]
  | t => t

/-- FORMAT_VALUE(neg, M, S) (R308). -/
def formatValue (v : Value) : List Byte :=
  (if v.neg then [0x2D] else []) ++ decimalText (v.mant / 10 ^ v.scale) ++ [0x2E] ++
  trimZeros (fixedText v.scale (v.mant % 10 ^ v.scale))

/-- FORMAT_RAW(a, v) (R309). -/
def formatRaw (a : Byte) (v : Six Value) : List Byte :=
  [a] ++ ([0x2B] ++ formatValue v.x0) ++ ([0x2B] ++ formatValue v.x1) ++ ([0x2B] ++ formatValue v.x2) ++
  ([0x2B] ++ formatValue v.x3) ++ ([0x2B] ++ formatValue v.x4) ++ ([0x2B] ++ formatValue v.x5)

end Sys2Proof.Machine
end

