-- ==== Sys2Proof/Machine/Probe.lean ====
section
/-! DEFINITION. One step of the engine sequencer `pseq`: the POLL (R250 to R267). -/

namespace Sys2Proof.Machine

/-- `pseq <- S`. -/
def setPseq (q : PSeq) (s : State) : State := { s with engine := { s.engine with seq := q } }

/-- `result <- k; pseq <- P_FINISH`. -/
def finishWith (k : BitVec 4) (s : State) : State :=
  { s with engine := { s.engine with result := k, seq := .finish } }

/-- POLL_STATUS.PHASE <- k. -/
def setPhase (k : BitVec 3) (s : State) : State := { s with poll := { s.poll with phase := k } }

/-- START_SEND(P) (R266). -/
def startSend (p : List Byte) (s : State) : State :=
  { s with
    xport :=
      { s.xport with
        cmdl := latchChars (p.map low7) s.xport.cmdl, cmdlLen := p.length, echoLen := p.length, wi := 0,
        sendThenListen := true, ltCycles := sendListenCycles s.params, caller := .engine, seq := .wake } }

/-- START_LISTEN(ms) (R266). -/
def startListen (ms : Nat) (s : State) : State :=
  { s with
    xport :=
      { s.xport with echoLen := 0, ltCycles := ms * tickCycles s.params, caller := .engine, seq := .lstart } }

/-- COLLECT: all of `Q` into `resp` through the read path, `ovf` recorded and cleared (R254). -/
def collect (s : State) : State :=
  { s with
    poll := { s.poll with ovfSeen := s.poll.ovfSeen || s.fifo.ovf }
    engine := { s.engine with resp := s.fifo.q }
    fifo := fifoFlush }

/-- P_START: the flush, then the usage check (R252). -/
def stepStart (s : State) : State :=
  let t := flushQ s
  if 2 ≤ s.engine.kind.toNat ∨ addrValid s.engine.addr = false then finishWith 1 t
  else
    setPhase 1
      { t with
        engine :=
          { t.engine with cmdp := startCommand t.engine.addr t.engine.kind, tries := 0, seq := .issueSend } }

/-- P_ISSUE_SEND: one attempt, or result 2 when the attempts are exhausted (R253). -/
def stepIssueSend (s : State) : State :=
  if s.engine.ia.toNat ≤ s.engine.tries.toNat then finishWith 2 s
  else
    startSend s.engine.cmdp
      { s with
        engine := { s.engine with tries := s.engine.tries + 1, seq := .issueCheck }
        poll := { s.poll with issueTries := s.engine.tries + 1 } }

/-- P_ISSUE_CHECK after its wait: collect and parse the service-request reply (R255). -/
def stepIssueCheck (s : State) : State :=
  let t := collect s
  match parseSrq t.engine.resp with
  | none => setPseq .issueSend t
  | some (a, ttt, n) =>
    setPhase 2
      { t with
        engine :=
          { t.engine with
            srqA := a, srqT := BitVec.ofNat 10 ttt, srqN := BitVec.ofNat 4 n, t0 := s.now,
            seq := .readyListen }
        srq := { addr := a, ttt := BitVec.ofNat 10 ttt, n := BitVec.ofNat 4 n, valid := true } }

/-- GOTO_DATA (R257). -/
def gotoData (s : State) : State :=
  setPhase 3 { s with engine := { s.engine with count := 0, b := 0, tries := 0, seq := .dataSend } }

/-- P_READY_LISTEN: the end of the window, or one more interval (R257). -/
def stepReadyListen (s : State) : State :=
  if 1000 * s.engine.srqT.toNat ≤ elapsedMs s s.engine.t0 then gotoData s
  else setPseq .readyCheck (startListen s.engine.rp.toNat s)

/-- P_READY_CHECK after its wait: collect, and stop early on a data-ready notice (R257). -/
def stepReadyCheck (s : State) : State :=
  let t := collect s
  if isNotice t.engine.resp t.engine.addr then
    gotoData { t with poll := { t.poll with readyEarly := true } }
  else setPseq .readyListen t

/-- NEXT_BLOCK: 3 more fields, the next block, PHASE 4 for block 1 and 5 after it (R258). -/
def nextBlock (s : State) : State :=
  setPhase (if s.engine.b + 1 = 1 then 4 else 5)
    { s with
      engine :=
        { s.engine with
          count := s.engine.count + Config.fieldsPerBlock, b := s.engine.b + 1, tries := 0, seq := .dataSend } }

/-- BLKb_FAIL <- 1; blk_ok[b] <- 0 (R258). -/
def failBlock (s : State) : State :=
  if s.engine.b = 0 then
    { s with poll := { s.poll with blk0Fail := true }, engine := { s.engine with blkOk0 := false } }
  else { s with poll := { s.poll with blk1Fail := true }, engine := { s.engine with blkOk1 := false } }

/-- BLKb_TRIES <- n (R258). -/
def setBlkTries (n : BitVec 4) (s : State) : State :=
  if s.engine.b = 0 then { s with poll := { s.poll with blk0Tries := n } }
  else { s with poll := { s.poll with blk1Tries := n } }

/-- P_DATA_SEND: the end of the blocks, an exhausted block, or one attempt (R258). -/
def stepDataSend (s : State) : State :=
  if s.engine.srqN.toNat ≤ s.engine.count ∨ Config.maxBlocks ≤ s.engine.b then
    setPhase 5 (setPseq .convert s)
  else if s.engine.ba.toNat ≤ s.engine.tries.toNat then
    if s.engine.strict then finishWith (4 + BitVec.ofNat 4 s.engine.b) (failBlock s)
    else nextBlock (failBlock s)
  else
    startSend (dataCommand s.engine.b)
      (setBlkTries (s.engine.tries + 1)
        { s with engine := { s.engine with tries := s.engine.tries + 1, seq := .dataCheck } })

/-- `field[3b..3b+2] <- r; blk_ok[b] <- 1` (R259). -/
def storeFields (f0 f1 f2 : List Byte) (s : State) : State :=
  if s.engine.b = 0 then
    { s with
      engine :=
        { s.engine with
          fields := { s.engine.fields with x0 := f0, x1 := f1, x2 := f2 }, blkOk0 := true } }
  else
    { s with
      engine :=
        { s.engine with
          fields := { s.engine.fields with x3 := f0, x4 := f1, x5 := f2 }, blkOk1 := true } }

/-- P_DATA_CHECK after its wait: collect and parse the data reply (R259). -/
def stepDataCheck (s : State) : State :=
  let t := collect s
  match parseData t.engine.resp with
  | none => setPseq .dataSend t
  | some (f0, f1, f2) => nextBlock (storeFields f0 f1 f2 t)

/-- The value of one field of a block: the zero when the block did not parse, `none` when NUMERIC fails (R260, R261). -/
def convertField (ok : Bool) (f : List Byte) : Option Value := if ok then numeric f else some zeroValue

/-- The six values of a reading, or `none` when some field of a parsed block is not numeric (R261, R306). -/
def convertAll (e : Engine) : Option (Six Value) :=
  match convertField e.blkOk0 e.fields.x0, convertField e.blkOk0 e.fields.x1, convertField e.blkOk0 e.fields.x2,
    convertField e.blkOk1 e.fields.x3, convertField e.blkOk1 e.fields.x4, convertField e.blkOk1 e.fields.x5 with
  | some v0, some v1, some v2, some v3, some v4, some v5 => some ⟨v0, v1, v2, v3, v4, v5⟩
  | _, _, _, _, _, _ => none

/-- A function on each of six. -/
def mapSix {α β : Type} (f : α → β) (v : Six α) : Six β :=
  ⟨f v.x0, f v.x1, f v.x2, f v.x3, f v.x4, f v.x5⟩

/-- The bank after BANK_UPDATE(k, a, v, raw) (R262, R304, R305). -/
def readingBank (a : Byte) (v : Six Value) (raw : List Byte) : Bank :=
  { valid := true
    addr := a
    rawLen := BitVec.ofNat 7 raw.length
    valdec := mapSix decWord v
    valf64 := mapSix f64Word v
    raw := raw ++ List.replicate (Config.rawBytes - raw.length) 0 }

/-- `bank[k] <- d`, for the two kinds that have a bank (R35, R262). -/
def setBank (k : BitVec 2) (d : Bank) (s : State) : State :=
  if k = 0 then { s with moisture := d } else if k = 1 then { s with temperature := d } else s

/-- P_CONVERT: all six values or none, the raw text, the bank update, result 0 (R261, R306). -/
def stepConvert (s : State) : State :=
  match convertAll s.engine with
  | some v =>
    finishWith 0 (setBank s.engine.kind (readingBank s.engine.addr v (formatRaw s.engine.addr v)) s)
  | none =>
    finishWith 0
      (setBank s.engine.kind (readingBank s.engine.addr (sixOf zeroValue) [])
        { s with poll := { s.poll with ncf := true } })

/-- P_FINISH: the final flush, RESULT, DONE, PHASE 0, P_IDLE (R263). -/
def stepFinish (s : State) : State :=
  let t := flushQ s
  setPseq .idle { t with poll := { t.poll with result := t.engine.result, done := true, phase := 0 } }

/-- One step of the engine; `xIdle` says whether the transport was idle at the start of the cycle, which the `*_CHECK`
states wait for (R267). -/
def engineStep (xIdle : Bool) (s : State) : State :=
  match s.engine.seq with
  | .idle => s
  | .start => stepStart s
  | .issueSend => stepIssueSend s
  | .issueCheck => if xIdle then stepIssueCheck s else s
  | .readyListen => stepReadyListen s
  | .readyCheck => if xIdle then stepReadyCheck s else s
  | .dataSend => stepDataSend s
  | .dataCheck => if xIdle then stepDataCheck s else s
  | .convert => stepConvert s
  | .finish => stepFinish s

end Sys2Proof.Machine
end

