-- ==== Sys2Proof/Machine/Transport.lean ====
section
/-! DEFINITION. One step of the transport sequencer `xseq` (R170, R178, R179, R181). -/

namespace Sys2Proof.Machine

/-- `xseq <- S`. -/
def setXseq (q : XSeq) (s : State) : State := { s with xport := { s.xport with seq := q } }

/-- `next_after_wake` (R178). -/
def nextAfterWake (s : State) : State :=
  setXseq (if s.xport.sendThenListen then .write else .idle) s

/-- X_WAKE: Transmitting, then the break frame at 600 baud when `break_en_l` is set (R178). -/
def stepWake (s : State) : State :=
  let t := setMode .transmitting s
  if s.xport.breakEn then
    setXseq .brk { t with line := txStart 0 { t.line with rate := .slow } }
  else nextAfterWake t

/-- X_BREAK: when the break frame is sent, back to 1200 baud, then the mark or the next state (R178). -/
def stepBreak (s : State) : State :=
  if s.line.tx = .idle then
    let t := { s with line := { s.line with rate := .normal } }
    if 0 < s.params.markBits then
      setXseq .mark { t with line := txMark s.params s.params.markBits t.line }
    else nextAfterWake t
  else s

/-- X_MARK (R178). -/
def stepMark (s : State) : State := if s.line.tx = .idle then nextAfterWake s else s

/-- X_WRITE: the next character when the transmitter is idle; after the last one RESET_INPUT (R179, R180). -/
def stepWrite (s : State) : State :=
  if s.line.tx = .idle then
    if s.xport.wi < s.xport.cmdlLen then
      { s with
        line := txStart (s.xport.cmdl.getD s.xport.wi 0) s.line
        xport := { s.xport with wi := s.xport.wi + 1 } }
    else setXseq .lstart { s with line := resetInput s.line }
  else s

/-- X_LSTART (R181). -/
def stepLstart (s : State) : State :=
  let t := setMode .listening s
  { t with xport := { t.xport with idle := 0, seq := .listen } }

/-- The end of a listen: the strip when there is an echo pattern, then X_IDLE (R181, R182). -/
def endListen (s : State) : State :=
  setXseq .idle
    (if 0 < s.xport.echoLen then { s with fifo := fifoStrip (echoPattern s.xport) s.fifo } else s)

/-- X_LISTEN: one byte from `rxq` to `Q`, or the end when the timeout has elapsed, or one more idle cycle (R181). -/
def stepListen (s : State) : State :=
  match s.line.rxq with
  | x :: rest =>
    { s with
      line := { s.line with rxq := rest }
      fifo := fifoAppend x s.fifo
      xport := { s.xport with idle := 0 } }
  | [] =>
    if s.xport.ltCycles ≤ s.xport.idle then endListen s
    else { s with xport := { s.xport with idle := s.xport.idle + 1 } }

/-- One step of the transport sequencer (R170). -/
def transportStep (s : State) : State :=
  match s.xport.seq with
  | .idle => s
  | .wake => stepWake s
  | .brk => stepBreak s
  | .mark => stepMark s
  | .write => stepWrite s
  | .lstart => stepLstart s
  | .listen => stepListen s

end Sys2Proof.Machine
end

