-- ==== Sys2Proof/Machine/Uart.lean ====
section
/-! DEFINITION. Step 3 of the cycle: the UART transmitter and receiver (R223, R227 to R230). -/

namespace Sys2Proof.Machine

/-- The transmitter after one more cycle (R223): a frame bit lasts `bit_cycles` cycles, the frame ten bits, the
mark its count. -/
def txNext (p : Params) : TxState → TxState
  | .idle => .idle
  | .frame rate bits bit cyc =>
    if cyc + 1 < bitCyclesAt p rate then .frame rate bits bit (cyc + 1)
    else if bit < 9 then .frame rate bits (bit + 1) 0
    else .idle
  | .mark left => if 1 < left then .mark (left - 1) else .idle

/-- The data so far with bit `i` set to the sampled level (R228). -/
def putBit (d : Char7) (i : Nat) (level : Bool) : Char7 :=
  if level then d ||| BitVec.ofNat 7 (2 ^ i) else d &&& ~~~(BitVec.ofNat 7 (2 ^ i))

/-- What the receiver does in one cycle: its next state, and the character it delivers, if any. -/
structure RxStep where
  rx : RxState
  delivered : Option Char7
  deriving DecidableEq, Repr

/-- The cycles from the last sample point to sample `i`: half a bit to the start check, one bit to each later one
(R228). -/
def sampleGap (p : Params) (rate : Rate) (i : Nat) : Nat :=
  if i = 0 then bitCyclesAt p rate / 2 else bitCyclesAt p rate

/-- Sample `i` of a frame at its sample point (R228): the start check, a data bit, the parity bit (not checked), or
the stop bit, which delivers the character whatever its level (R229). -/
def rxSample (rate : Rate) (i : Nat) (d : Char7) (level : Bool) : RxStep :=
  if i = 0 then
    if level then ⟨.hunt, none⟩ else ⟨.frame rate 1 0 d, none⟩
  else if i ≤ 7 then ⟨.frame rate (i + 1) 0 (putBit d (i - 1) level), none⟩
  else if i = 8 then ⟨.frame rate 9 0 d, none⟩
  else ⟨if level then .hunt else .waitHigh, some d⟩

/-- One cycle of the receiver that samples `level`; `rate` is the line's rate, which a frame that begins now keeps
(R222, R227, R228). -/
def rxNext (p : Params) (rate : Rate) (level : Bool) : RxState → RxStep
  | .off => ⟨.off, none⟩
  | .waitHigh => ⟨if level then .hunt else .waitHigh, none⟩
  | .hunt => ⟨if level then .hunt else .frame rate 0 0 0, none⟩
  | .frame r i cyc d =>
    if cyc + 1 < sampleGap p r i then ⟨.frame r i (cyc + 1) d, none⟩ else rxSample r i d level

/-- The transmitter steps from its state at the start of the cycle, unless steps 1 or 2 wrote it (R80, R223,
log 7). -/
def uartTx (s0 : State) (s : State) : State :=
  if s.line.tx = s0.line.tx then { s with line := { s.line with tx := txNext s.params s0.line.tx } } else s

/-- The receiver steps from its state at the start of the cycle, unless steps 1 or 2 opened or closed the line
(R80, R227, log 7); whether a delivered character finds room is read at the start of the cycle, and it is appended to the queue
as step 2 left it (R80, R180, log 8). -/
def uartRx (level : Bool) (s0 : State) (s : State) : State :=
  if s.line.rx = s0.line.rx then
    match (rxNext s.params s0.line.rate level s0.line.rx).delivered with
    | none => { s with line := { s.line with rx := (rxNext s.params s0.line.rate level s0.line.rx).rx } }
    | some c =>
      { s with
        line :=
          deliver s.params s0.line.rxq.length (byteOf c)
            { s.line with rx := (rxNext s.params s0.line.rate level s0.line.rx).rx } }
  else s

end Sys2Proof.Machine
end

