-- ==== Sys2Proof/Machine/Cycle.lean ====
section
/-! DEFINITION. One cycle of `clk`: the inputs of the cycle, step 1 (the host access), step 2 (transport, then engine),
step 3 (UART), in the order of R80, and reset (R370, R372). -/

namespace Sys2Proof.Machine

/-- The level of `rxd` sampled in this cycle: the head of the list, or the free value (R221, log 4). -/
def rxdNow (s : State) : Bool := s.rxd.headD (Config.freeRxd s.draws)

/-- The inputs of this cycle are used up. -/
def consumeInputs (s0 : State) (s : State) : State :=
  { s with host := s0.host.tail, rxd := s0.rxd.tail, draws := s0.draws + 1 }

/-- Step 1: the access is decoded; an instruction is executed, a refused command word is rejected with its cause
(R105), any other access is a plain register access. -/
def hostAccess (a : BusAccess) (s : State) : Result :=
  match decode a with
  | .ok i => exec i s
  | .error .badOpcode => .next (rejectWord causeBadOpcode s)
  | .error .reservedBits => .next (rejectWord causeReservedBits s)
  | .error .plainRegister => .next (plainAccess a s)

/-- Step 2a: the transport steps when it was not idle at the start of the cycle (R80). -/
def transportPhase (s0 s : State) : State := if s0.xport.seq = .idle then s else transportStep s

/-- Step 2b: the engine steps when it was not idle at the start of the cycle (R80, R267). -/
def enginePhase (s0 s : State) : State :=
  if s0.engine.seq = .idle then s else engineStep (s0.xport.seq == .idle) s

/-- Steps 2 and 3 and the end of the cycle, from the state at its start and the state after step 1 (R80). -/
def clockEdge (s0 s1 : State) : State :=
  let s3 := enginePhase s0 (transportPhase s0 s1)
  let s4 := uartRx (rxdNow s0) s0 (uartTx s0 s3)
  { consumeInputs s0 s4 with now := s0.now + 1 }

/-- A cycle with `rst_n = 0`: every element at its reset value; the parameters stay and the inputs go on (R370,
R372). -/
def resetCycle (s : State) : State := consumeInputs s { State.reset with params := s.params }

/-- Step 1 of a cycle with `rst_n = 1`. -/
def hostPhase (s : State) : Result :=
  match (hostNow s).access with
  | none => .next s
  | some a => hostAccess a s

/-- One cycle (R80, R370). -/
def cycle (s : State) : Result :=
  if (hostNow s).rstN = false then .next (resetCycle s)
  else match hostPhase s with
    | .next s1 => .next (clockEdge s s1)
    | .fault r => .fault r
    | .refused r => .refused r

/-- The access of a word of spec/opcode_table.json as the host's side of the coming cycle. -/
def placeAccess (a : BusAccess) (s : State) : State := { s with host := ⟨true, some a⟩ :: s.host.tail }

end Sys2Proof.Machine
end

