-- ==== Sys2Proof/Machine/Step.lean ====
section
/-! DEFINITION. The step of the machine, one cycle of `clk`, and the placing of an instruction where the next step
takes it. -/

namespace Sys2Proof.Machine

/-- One step: one cycle of `clk` (R80). -/
def step (s : State) : Host.Outcome State Fault Refusal := Sys2Proof.Machine.cycle s

/-- The access that a word of spec/opcode_table.json stands for, as what the host presents in the coming cycle: the
host's program is outside the block (R70), so it is placed in the list of the host's coming cycles (log 6). -/
def State.withFetchWord (s : State) (nbits w : Nat) : State := placeAccess (tableAccess nbits w) s

end Sys2Proof.Machine
end

