-- ==== Sys2Proof/Safety.lean ====
section
/-! DEFINITION. What a safe state of the block is, in the terms the statements use: the invariants the spec gives for the
line (R22, R170, R191, R227), the buffers (R36, R37, R140, R229), the codes (R25, R33, R34, R341, R345) and the readings
(R35); and the vocabulary of the statements about runs, accesses and values. -/

namespace Sys2Proof.Machine

/-! ### Invariants -/

/-- The line and the sequencers agree. -/
structure LineSafe (s : State) : Prop where
  /-- A closed line has no receiver, no queue and no transmission (R22, R171, R227). -/
  closed : s.line.mode = .disabled →
    s.line.rx = .off ∧ s.line.rxq = [] ∧ s.line.rxqOvr = false ∧ s.line.tx = .idle ∧ s.line.rate = .normal
  /-- An open line receives (R227). -/
  opened : s.line.mode ≠ .disabled → s.line.rx ≠ .off
  /-- The states that transmit run in Transmitting (R191). -/
  transmitting : s.xport.seq = .brk ∨ s.xport.seq = .mark ∨ s.xport.seq = .write →
    s.line.mode = .transmitting
  /-- The listen loop runs in Listening (R191). -/
  listening : s.xport.seq = .listen → s.line.mode = .listening
  /-- A frame or a mark is in flight only while its sequence runs (R178, R179). -/
  inFlight : s.line.tx ≠ .idle → s.xport.seq = .brk ∨ s.xport.seq = .mark ∨ s.xport.seq = .write
  /-- The break rate is used only for the break (R178, R222). -/
  breakRate : s.line.rate = .slow → s.xport.seq = .brk
  /-- Outside its `*_CHECK` states the engine has the transport to itself (R267). -/
  engineAlone : s.engine.seq = .start ∨ s.engine.seq = .issueSend ∨ s.engine.seq = .readyListen ∨
    s.engine.seq = .dataSend ∨ s.engine.seq = .convert ∨ s.engine.seq = .finish → s.xport.seq = .idle

/-- The buffers keep their bounds. -/
structure BufferSafe (s : State) : Prop where
  /-- `|Q| <= FIFO_DEPTH` (R140). -/
  fifo : s.fifo.q.length ≤ Config.fifoDepth
  /-- `|rxq| <= RXQ_DEPTH` (R36). -/
  rxq : s.line.rxq.length ≤ rxqDepth s.params
  /-- Every received byte has bit 7 = 0 (R229). -/
  fifoSeven : ∀ x ∈ s.fifo.q, x.getLsbD 7 = false
  rxqSeven : ∀ x ∈ s.line.rxq, x.getLsbD 7 = false
  /-- The command latch and its lengths (R37). -/
  cmdl : s.xport.cmdl.length = 16
  cmdlLen : s.xport.cmdlLen ≤ 16
  echoLen : s.xport.echoLen ≤ 16
  wi : s.xport.wi ≤ 16
  cmdp : s.engine.cmdp.length ≤ 4
  /-- The latest COLLECT result (R38, R254). -/
  resp : s.engine.resp.length ≤ Config.fifoDepth

/-- A result code of a POLL: 0, 1, 2, 4 or 5 (R345, R346). -/
def ResultCode (k : BitVec 4) : Prop := k = 0 ∨ k = 1 ∨ k = 2 ∨ k = 4 ∨ k = 5

/-- Codes, counts and parsed fields keep the ranges the spec gives them. -/
structure CodeSafe (s : State) : Prop where
  /-- ERR_CAUSE is 0 when CMD_ERR = 0 (R25), and never above 4 (R341). -/
  noError : s.err.cmdErr = false → s.err.errCause = 0
  cause : s.err.errCause.toNat ≤ 4
  /-- PHASE 6 and 7 never occur (R33). -/
  phase : s.poll.phase.toNat ≤ 5
  /-- RESULT 3 and 6..15 never occur (R345, R346). -/
  result : ResultCode s.poll.result
  engineResult : ResultCode s.engine.result
  /-- The block index and the running field count (R38, R258). -/
  block : s.engine.b ≤ 2
  fieldCount : s.engine.count ≤ 6
  dueBlock : s.engine.seq = .dataCheck → s.engine.b ≤ 1
  count : s.engine.seq = .dataSend ∨ s.engine.seq = .dataCheck → s.engine.count = 3 * s.engine.b
  /-- Each count of attempts is at most its latched limit (R265). -/
  issueTries : s.poll.issueTries.toNat ≤ s.engine.ia.toNat
  blk0Tries : s.poll.blk0Tries.toNat ≤ s.engine.ba.toNat
  blk1Tries : s.poll.blk1Tries.toNat ≤ s.engine.ba.toNat
  /-- A valid SRQ holds N in 1..9 and TTT in 0..999 (R34). -/
  srq : s.srq.valid = true → s.srq.ttt.toNat ≤ 999 ∧ 1 ≤ s.srq.n.toNat ∧ s.srq.n.toNat ≤ 9

/-- A bank holds either no reading or a whole one (R35). -/
structure BankSafe (k : Bank) : Prop where
  window : k.raw.length = Config.rawBytes
  rawLen : k.rawLen.toNat ≤ 67
  /-- Bytes at index `>= RAW_LEN` read 0 (R35). -/
  padding : ∀ i, k.rawLen.toNat ≤ i → at' k.raw i = 0
  /-- VALID = 0 marks no reading yet (R35). -/
  noReading : k.valid = false → k = bankClear

/-- The readings and the fields they come from. -/
structure ReadingSafe (s : State) : Prop where
  moisture : BankSafe s.moisture
  temperature : BankSafe s.temperature
  /-- The field byte sequences have at most 8 bytes each (R38). -/
  fields : ∀ j, (six s.engine.fields j).length ≤ Config.fieldWidth

/-! ### Vocabulary -/

/-- The state after a rejection with cause `k`: CMD_ERR and ERR_CAUSE written, all else as it was (R340). -/
def Rejects (r : Result) (s : State) (k : BitVec 3) : Prop :=
  r = .next { s with err := { cmdErr := true, errCause := k, actResult := s.err.actResult } }

/-- A command that uses TXBUF: SENDCMD, and LISTEN with ECHO = 1 (R31, R105). -/
def usesTxbuf (w : Word) : Prop := opOf w = 0x6 ∨ (opOf w = 0x7 ∧ w.getLsbD 6 = true)

/-- What a command in flight runs on: everything but the RW registers, the rejection flags, the read data and the
coming host cycles. -/
def SameRun (s t : State) : Prop :=
  s.params = t.params ∧ s.fifo = t.fifo ∧ s.line = t.line ∧ s.xport = t.xport ∧ s.engine = t.engine ∧
  s.poll = t.poll ∧ s.srq = t.srq ∧ s.moisture = t.moisture ∧ s.temperature = t.temperature ∧
  s.now = t.now ∧ s.rxd = t.rxd ∧ s.draws = t.draws

/-- The writable bits of the RW registers, by word index (R26, R28 to R32). -/
def rwMask : Nat → Option Word
  | 0x02 => some 0x00000007
  | 0x03 => some 0x0000FFFF
  | 0x04 => some 0x000000FF
  | 0x05 => some 0x000003FF
  | 0x06 => some 0x0000001F
  | 0x07 => some 0xFFFFFFFF
  | 0x08 => some 0xFFFFFFFF
  | 0x09 => some 0xFFFFFFFF
  | 0x0A => some 0xFFFFFFFF
  | _ => none

/-- The word indices of a bank's part of the map: RD_STATUS, VALDEC, VALF64, RAW (R72). -/
def bankIndex (o : Nat) : Prop := o = 0 ∨ (4 ≤ o ∧ o < 10) ∨ (12 ≤ o ∧ o < 24) ∨ (24 ≤ o ∧ o < 41)

/-- The word indices of the register map (R72). -/
def mappedIndex (i : Nat) : Prop :=
  i ≤ 0x0A ∨ i = 0x0C ∨ i = 0x0D ∨ i = 0x0E ∨ i = 0x10 ∨ i = 0x11 ∨
  (∃ o, i = 64 + o ∧ bankIndex o) ∨ (∃ o, i = 128 + o ∧ bankIndex o)

/-- The low 12 bits of an access with bits 1:0 cleared (R71). -/
def alignAccess : BusAccess → BusAccess
  | .read a => .read (a &&& 0xFFC)
  | .write a v => .write (a &&& 0xFFC) v

/-- The state after `n` cycles, when all of them answer a next state. -/
def RunsTo (n : Nat) (s t : State) : Prop := Sys2Proof.core.run n s = .next t

/-- Whether the block of field `j` parsed (R261). -/
def blockParsed (e : Engine) (j : Nat) : Bool := if j < 3 then e.blkOk0 else e.blkOk1

/-- NUMERIC fails for some field of a parsed block (R306). -/
def someFieldNotNumeric (e : Engine) : Bool :=
  (List.range 6).any fun j => blockParsed e j && (numeric (six e.fields j)).isNone

/-- The rational a value stands for, without its sign (R304). -/
def magnitude (v : Value) : ℚ := v.mant / 10 ^ v.scale

/-- The rational a finite binary64 magnitude stands for: exponent in bits 62:52, fraction in bits 51:0 (R305). -/
def f64Rational (m : BitVec 63) : ℚ :=
  if m.toNat / 2 ^ 52 = 0 then (m.toNat % 2 ^ 52 : ℕ) / 2 ^ 1074
  else (2 ^ 52 + m.toNat % 2 ^ 52 : ℕ) * 2 ^ (m.toNat / 2 ^ 52) / 2 ^ 1075

/-- A transmitter and a receiver on one zero-delay line, after one cycle (R231). -/
def loopStep (p : Params) (rate : Rate) (x : TxState × RxState) : TxState × RxState :=
  (txNext p x.1, (rxNext p rate (txLevel x.1) x.2).rx)

/-- What the receiver delivers in cycle `n` of a loop that starts in `x`. -/
def loopDelivers (p : Params) (rate : Rate) (x : TxState × RxState) (n : Nat) : Option Char7 :=
  (rxNext p rate (txLevel ((loopStep p rate)^[n] x).1) ((loopStep p rate)^[n] x).2).delivered

end Sys2Proof.Machine
end

