-- ==== Sys2Proof/Certificates/Slice0/Obligations.lean ====
section
/-! DEFINITION. The statements for the provers. Each docstring names the rule of spec/ it formalises, or the sections it
rests on. -/

open Sys2Proof Sys2Proof.Machine

/-! ### Encoding -/

/-- Decode and encode agree: every instruction, with every operand value its encoding admits, is presented by a
well-formed access that decodes to it (R100 to R102, R106 to R109, R72). -/
def Obligations.DecodeInvertsEncode : Prop :=
  ∀ i : Instr, accessWellFormed (encode i) = true ∧ decode (encode i) = .ok i

/-- R102: "A word selects mnemonic M when `w & mask(M) = match(M)`". -/
def Obligations.CommandWordSelectsItsRow : Prop :=
  ∀ row ∈ opTable, ∀ w : Word,
    w &&& row.mask = row.pattern ↔ ∃ i, decodeCmd w = .ok i ∧ i.mnemonic = row.mnemonic

/-- Words written out from R100, R101 and R122, one or more of each family, decode to the instruction they stand
for; a word of each reserved kind is refused by name (R103, R104). -/
def Obligations.SpecWordsDecode : Prop :=
  decode (.write 0x000 0x00000031) = .ok (.setmode .listening) ∧
  decode (.write 0x000 0x00000002) = .ok .busBegin ∧
  decode (.write 0x000 0x00000047) = .ok (.listen true) ∧
  decode (.write 0x000 0x00300109) = .ok (.poll 1 0x30) ∧
  decode (.read 0x031) = .ok .rxdata ∧
  decode (.write 0x004 0x00000080) = .ok (.clrerr 0x80) ∧
  decode (.write 0x000 0xFFFFFFF0) = .error .badOpcode ∧
  decode (.write 0x000 0x10000002) = .error .reservedBits

/-! ### Commands, rejection and its clearing -/

/-- R105: the four checks of a CMD write in their order, each rejection writing CMD_ERR and ERR_CAUSE and nothing else,
and an accepted word executed as the instruction it decodes to, with CMD_ERR and ERR_CAUSE as they were. -/
def Obligations.CommandChecksInOrder : Prop :=
  ∀ (s : State) (a : Offset) (w : Word), regIndex a = 0 →
    (busy s = true → Rejects (hostAccess (.write a w) s) s 1) ∧
    (busy s = false → (opOf w = 0 ∨ 0xA ≤ (opOf w).toNat) → Rejects (hostAccess (.write a w) s) s 2) ∧
    (∀ row ∈ opTable, busy s = false → opOf w = row.op → w &&& row.mask ≠ row.pattern →
      Rejects (hostAccess (.write a w) s) s 3) ∧
    (∀ row ∈ opTable, busy s = false → w &&& row.mask = row.pattern →
      usesTxbuf w → 16 < s.regs.txlen.toNat → Rejects (hostAccess (.write a w) s) s 4) ∧
    (∀ row ∈ opTable, busy s = false → w &&& row.mask = row.pattern →
      ¬ (usesTxbuf w ∧ 16 < s.regs.txlen.toNat) →
      ∃ i t, decodeCmd w = .ok i ∧ i.mnemonic = row.mnemonic ∧ hostAccess (.write a w) s = exec i s ∧
        exec i s = .next t ∧ t.err.cmdErr = s.err.cmdErr ∧ t.err.errCause = s.err.errCause)

/-- R189: a write of STATUS is CLRERR; it completes in every state, BUSY or not: bit 7 of the written word clears CMD_ERR and
ERR_CAUSE, every other bit is ignored, nothing else changes. -/
def Obligations.ClrerrClearsTheRejection : Prop :=
  ∀ (v : Word) (s : State) (a : Offset),
    (regIndex a = 1 → decode (.write a v) = .ok (.clrerr v)) ∧
    (v.getLsbD 7 = true →
      exec (.clrerr v) s =
        .next { s with err := { cmdErr := false, errCause := 0, actResult := s.err.actResult } }) ∧
    (v.getLsbD 7 = false → exec (.clrerr v) s = .next s)

/-! ### The step and reset -/

/-- The step (R80, R105). When the host presents an access that decodes to `i`, the step is `exec i` as step 1 of the cycle, then
the clock edge that every cycle has; any other access, a rejected word or a plain register access, does what `hostAccess` says in
place of `exec i`; a quiet cycle is the clock edge alone. The clock edge runs the transport when `xseq` was not idle at the start of
the cycle, then the engine when `pseq` was not, telling it whether `xseq` was idle at the start of the cycle (R267); then the UART:
the transmitter moves on by one cycle unless the cycle wrote it (log 7); and beside the transmitter, the receiver and its queue,
nothing else changes but the cycle count and the inputs used up. So with both sequencers idle everything else is as step 1 left it.
The clauses on `host`, `rxd` and `draws`, and what an empty `host` means, are about the model's own fields (logs 3, 4). -/
def Obligations.StepRunsTheDecodedInstruction : Prop :=
  (∀ (s t : State) (acc : BusAccess) (rest : List HostCycle) (i : Instr),
    s.host = ⟨true, some acc⟩ :: rest → decode acc = .ok i → exec i s = .next t →
    step s = .next (clockEdge s t)) ∧
  (∀ (s t : State) (acc : BusAccess) (rest : List HostCycle),
    s.host = ⟨true, some acc⟩ :: rest → hostAccess acc s = .next t → step s = .next (clockEdge s t)) ∧
  (∀ (s : State) (rest : List HostCycle), s.host = ⟨true, none⟩ :: rest ∨ s.host = [] →
    step s = .next (clockEdge s s)) ∧
  (∀ s t : State, s.xport.seq = .idle → s.engine.seq = .idle →
    (clockEdge s t).params = t.params ∧ (clockEdge s t).err = t.err ∧ (clockEdge s t).regs = t.regs ∧
    (clockEdge s t).fifo = t.fifo ∧ (clockEdge s t).xport = t.xport ∧ (clockEdge s t).engine = t.engine ∧
    (clockEdge s t).poll = t.poll ∧ (clockEdge s t).srq = t.srq ∧ (clockEdge s t).moisture = t.moisture ∧
    (clockEdge s t).temperature = t.temperature ∧ (clockEdge s t).rdata = t.rdata ∧
    (clockEdge s t).line.mode = t.line.mode ∧ (clockEdge s t).line.owner = t.line.owner ∧
    (clockEdge s t).line.rate = t.line.rate ∧ (clockEdge s t).now = s.now + 1 ∧
    (clockEdge s t).host = s.host.tail ∧ (clockEdge s t).rxd = s.rxd.tail ∧
    (clockEdge s t).draws = s.draws + 1) ∧
  (∀ s t : State,
    (s.xport.seq = .idle → transportPhase s t = t) ∧
    (s.xport.seq ≠ .idle → transportPhase s t = transportStep t) ∧
    (s.engine.seq = .idle → enginePhase s t = t) ∧
    (s.engine.seq ≠ .idle → s.xport.seq = .idle → enginePhase s t = engineStep true t) ∧
    (s.engine.seq ≠ .idle → s.xport.seq ≠ .idle → enginePhase s t = engineStep false t)) ∧
  (∀ s t u : State, u = enginePhase s (transportPhase s t) →
    ∃ tx rx rxq ovr,
      clockEdge s t =
        { u with
          line := { u.line with tx := tx, rx := rx, rxq := rxq, rxqOvr := ovr },
          now := s.now + 1, host := s.host.tail, rxd := s.rxd.tail, draws := s.draws + 1 } ∧
      tx = if u.line.tx = s.line.tx then txNext u.params s.line.tx else u.line.tx)

/-- What reset leaves: the values R37, R38, R40 and R370 give the block's registers and hidden elements. Three elements are not
claimed, being the model's choice (log 11): the engine's `cmdp` and result code, and the value of `xcaller`. -/
def Obligations.ResetLeavesTheSpecValues : Prop :=
  State.reset.line =
    { mode := .disabled, owner := false, rxq := [], rxqOvr := false, rate := .normal, tx := .idle, rx := .off } ∧
  State.reset.fifo = { q := [], ovf := false } ∧
  statusWord State.reset = 0 ∧
  (∀ i, readWord State.reset i =
    if i = 0x02 then 0x00000001 else if i = 0x03 then 0x000003E8 else if i = 0x04 then 0x00000022
    else if i = 0x05 then 0x00000064 else if i = 0x0C ∨ i = 0x0D then 0x00000100 else 0) ∧
  State.reset.xport =
    { seq := .idle, caller := State.reset.xport.caller, cmdl := List.replicate 16 0, cmdlLen := 0,
      echoLen := 0, ltCycles := 0, idle := 0, wi := 0, sendThenListen := false, breakEn := false } ∧
  State.reset.engine =
    { seq := .idle, kind := 0, addr := 0, ia := 0, ba := 0, rp := 0, strict := false, tries := 0, b := 0,
      count := 0, resp := [], srqA := 0, srqT := 0, srqN := 0, fields := ⟨[], [], [], [], [], []⟩,
      blkOk0 := false, blkOk1 := false, t0 := 0, cmdp := State.reset.engine.cmdp,
      result := State.reset.engine.result } ∧
  State.reset.now = 0

/-- A cycle with `rst_n = 0` abandons whatever runs, whatever the host presents: every element returns to its reset value
(R370, R372), and in that cycle already the pins are `txd = 1`, `tx_en = 0` and `rs485_mode = 0`. That the parameters stay and the
inputs go on is the model's (logs 1 to 4). -/
def Obligations.ResetAbandonsEverything : Prop :=
  ∀ (s : State) (acc : Option BusAccess) (rest : List HostCycle), s.host = ⟨false, acc⟩ :: rest →
    step s = .next
      { State.reset with params := s.params, host := rest, rxd := s.rxd.tail, draws := s.draws + 1 } ∧
    txd s = true ∧ txEn s = false ∧ rs485Mode s = false

/-- No condition stops the block: every step answers a next state (60_exceptions.md introduction, R73). -/
def Obligations.EveryStepAnswers : Prop := ∀ s : State, ∃ t, step s = .next t

/-! ### Results and frames of the instructions -/

/-- SETMODE completes when not BUSY (R173): SET_MODE of its operand by R171 and R172, and nothing but the line group
changes, of which `owner` is kept. -/
def Obligations.SetmodeResult : Prop :=
  ∀ (m : BusMode) (s : State), busy s = false →
    ∃ t, exec (.setmode m) s = .next t ∧ { t with line := s.line } = s ∧
      (s.line.mode = .disabled → m = .disabled → t.line = s.line) ∧
      (s.line.mode = .disabled → m ≠ .disabled → t.line = { s.line with mode := m, rx := .waitHigh }) ∧
      (s.line.mode ≠ .disabled → m ≠ .disabled → t.line = { s.line with mode := m }) ∧
      (s.line.mode ≠ .disabled → m = .disabled →
        t.line =
          { s.line with
            mode := .disabled, rxq := [], rxqOvr := false, rx := .off, tx := .idle, rate := .normal })

/-- BEGIN completes when not BUSY (R174): Holding, `owner` set, ACT_RESULT says whether `owner` was 0; an opened line starts
its receiver, an open one keeps it; nothing else changes. -/
def Obligations.BeginResult : Prop :=
  ∀ s : State, busy s = false →
    ∃ t, exec .busBegin s = .next t ∧ { t with line := s.line, err := s.err } = s ∧
      t.err = { s.err with actResult := !s.line.owner } ∧
      t.line =
        { s.line with
          mode := .holding, owner := true,
          rx := if s.line.mode = .disabled then .waitHigh else s.line.rx }

/-- END completes when not BUSY (R175): Disabled, `owner` cleared, an open line closed (R171); `Q` and ACT_RESULT are kept. -/
def Obligations.EndResult : Prop :=
  ∀ s : State, busy s = false →
    ∃ t, exec .busEnd s = .next t ∧ { t with line := s.line } = s ∧
      (s.line.mode = .disabled → t.line = { s.line with owner := false }) ∧
      (s.line.mode ≠ .disabled →
        t.line =
          { mode := .disabled, owner := false, rxq := [], rxqOvr := false, rate := .normal, tx := .idle,
            rx := .off })

/-- SETACTIVE completes when not BUSY (R176): the first call forces Holding, sets `owner` and answers 1; with `owner` already
set it only answers 0. -/
def Obligations.SetactiveResult : Prop :=
  ∀ s : State, busy s = false →
    ∃ t, exec .setactive s = .next t ∧ { t with line := s.line, err := s.err } = s ∧
      t.err = { s.err with actResult := !s.line.owner } ∧
      (s.line.owner = true → t.line = s.line) ∧
      (s.line.owner = false →
        t.line =
          { s.line with
            mode := .holding, owner := true,
            rx := if s.line.mode = .disabled then .waitHigh else s.line.rx })

/-- FLUSH completes when not BUSY (R185, R145): `Q` and `ovf` are cleared and nothing else changes, `rxq` among it. -/
def Obligations.FlushResult : Prop :=
  ∀ s : State, busy s = false → exec .flush s = .next { s with fifo := { q := [], ovf := false } }

/-- WAKE completes its acceptance when not BUSY (R177): the break enable is latched, the sequencer starts for the host,
nothing outside the transport latches changes. That the latches WAKE does not write (`cmdl`, `echo_len`, `lt_cycles`, `idle`, `wi`)
keep their last values is the model's choice (log 13). -/
def Obligations.WakeAccepted : Prop :=
  ∀ s : State, busy s = false →
    exec .wake s = .next
      { s with
        xport :=
          { s.xport with
            breakEn := s.regs.breakEn, sendThenListen := false, cmdlLen := 0, caller := .host, seq := .wake } }

/-- SENDCMD completes its acceptance when not BUSY and TXLEN.LEN is at most 16 (R183): the first LEN bytes of TXBUF are
latched with bit 7 cleared, byte `n` being bits `8*(n mod 4)+7 : 8*(n mod 4)` of TXBUF`(n div 4)` (R32, R74), and the lengths, the
timeout of 1000 ms and the break enable are latched; nothing outside the transport latches changes. That `cmdl` past LEN and `idle`
keep their last values is the model's choice (log 13). -/
def Obligations.SendcmdAccepted : Prop :=
  ∀ s : State, busy s = false → s.regs.txlen.toNat ≤ 16 →
    ∃ t, exec .sendcmd s = .next t ∧ { t with xport := s.xport } = s ∧
      t.xport =
        { s.xport with
          cmdl := t.xport.cmdl, cmdlLen := s.regs.txlen.toNat, echoLen := s.regs.txlen.toNat, wi := 0,
          breakEn := s.regs.breakEn, sendThenListen := true,
          ltCycles := 1000 * (clkHz s.params / 1000), caller := .host, seq := .wake } ∧
      (∀ n, n < s.regs.txlen.toNat →
        t.xport.cmdl[n]? = ([s.regs.txbuf0, s.regs.txbuf1, s.regs.txbuf2, s.regs.txbuf3][n / 4]?).map
          (fun w => (w.extractLsb' (8 * (n % 4)) 8).setWidth 7)) ∧
      (∀ n, s.regs.txlen.toNat ≤ n → t.xport.cmdl[n]? = s.xport.cmdl[n]?)

/-- LISTEN completes its acceptance when not BUSY and, with ECHO = 1, TXLEN.LEN is at most 16 (R184): the timeout is
latched, the echo pattern is the first LEN bytes of TXBUF with bit 7 cleared, byte `n` being bits `8*(n mod 4)+7 : 8*(n mod 4)` of
TXBUF`(n div 4)` (R32, R74), or empty; nothing outside the transport latches changes. That CONFIG.BREAK_EN is latched too rests on
R84 (log 10). That `cmdl` past LEN, `cmdl_len`, `wi`, `send_then_listen` and `idle` keep their last values is the model's choice
(log 13). -/
def Obligations.ListenAccepted : Prop :=
  ∀ (echo : Bool) (s : State), busy s = false → (echo = true → s.regs.txlen.toNat ≤ 16) →
    ∃ t, exec (.listen echo) s = .next t ∧ { t with xport := s.xport } = s ∧
      t.xport =
        { s.xport with
          cmdl := t.xport.cmdl, echoLen := if echo then s.regs.txlen.toNat else 0,
          ltCycles := s.regs.ltMs.toNat * (clkHz s.params / 1000), breakEn := s.regs.breakEn,
          caller := .host, seq := .lstart } ∧
      (echo = false → t.xport.cmdl = s.xport.cmdl) ∧
      (echo = true → ∀ n, n < s.regs.txlen.toNat →
        t.xport.cmdl[n]? = ([s.regs.txbuf0, s.regs.txbuf1, s.regs.txbuf2, s.regs.txbuf3][n / 4]?).map
          (fun w => (w.extractLsb' (8 * (n % 4)) 8).setWidth 7)) ∧
      (echo = true → ∀ n, s.regs.txlen.toNat ≤ n → t.xport.cmdl[n]? = s.xport.cmdl[n]?)

/-- POLL completes its acceptance when not BUSY, for every KIND and ADDR (R251): the operands and the settings are latched,
POLL_STATUS and SRQ are cleared but for KIND, the fields and block marks are cleared; `Q`, the line, the registers and the
banks do not change. That the engine's elements POLL does not write (`tries`, `b`, `count`, `resp`, `srq_a`, `srq_t`, `srq_n`, `t0`,
`cmdp`, the result code) and the other transport latches keep their last values is the model's choice (log 13). -/
def Obligations.PollAccepted : Prop :=
  ∀ (kind : BitVec 2) (addr : Byte) (s : State), busy s = false →
    ∃ t, exec (.poll kind addr) s = .next t ∧
      { t with engine := s.engine, xport := s.xport, poll := s.poll, srq := s.srq } = s ∧
      t.engine =
        { s.engine with
          seq := .start, kind := kind, addr := addr, ia := s.regs.issueAttempts, ba := s.regs.blockAttempts,
          rp := s.regs.rpMs, strict := s.regs.strictBlk, fields := ⟨[], [], [], [], [], []⟩, blkOk0 := false,
          blkOk1 := false } ∧
      t.xport = { s.xport with breakEn := s.regs.breakEn } ∧
      pollStatusWord t.poll = kind.setWidth 32 <<< 13 ∧ t.poll.kind = kind ∧
      srqWord t.srq = 0 ∧ t.srq.valid = false

/-- R186: a read of RXDATA completes in every state: BUSY refuses it (EMPTY, no pop, `ovf` kept); an empty buffer answers EMPTY
and clears `ovf`; otherwise the head is answered and removed and `ovf` is cleared; nothing else changes but the read data, which
the model keeps in `rdata` (log 5). -/
def Obligations.RxdataResult : Prop :=
  ∀ (s : State) (a : Offset),
    (regIndex a = 0x0C → decode (.read a) = .ok .rxdata) ∧
    (busy s = true → exec .rxdata s = .next { s with rdata := 0x00000100 }) ∧
    (busy s = false → s.fifo.q = [] →
      exec .rxdata s = .next { s with rdata := 0x00000100, fifo := { q := [], ovf := false } }) ∧
    (∀ x rest, busy s = false → s.fifo.q = x :: rest →
      exec .rxdata s = .next { s with rdata := x.setWidth 32, fifo := { q := rest, ovf := false } })

/-- R187 and R188: reads of RXPEEK and RXAVAIL complete in every state, BUSY or not, and change nothing but the read data, which
the model keeps in `rdata` (log 5): the head or EMPTY; -1 while `ovf` is set, else the length. -/
def Obligations.PeekAndAvailableResults : Prop :=
  ∀ (s : State) (a : Offset),
    (regIndex a = 0x0D → decode (.read a) = .ok .rxpeek) ∧
    (regIndex a = 0x0E → decode (.read a) = .ok .rxavail) ∧
    (s.fifo.q = [] → exec .rxpeek s = .next { s with rdata := 0x00000100 }) ∧
    (∀ x rest, s.fifo.q = x :: rest → exec .rxpeek s = .next { s with rdata := x.setWidth 32 }) ∧
    (s.fifo.ovf = true → exec .rxavail s = .next { s with rdata := 0xFFFFFFFF }) ∧
    (s.fifo.ovf = false →
      exec .rxavail s = .next { s with rdata := BitVec.ofNat 32 s.fifo.q.length })

/-! ### The register window -/

/-- Host accesses cannot touch a command in flight: while BUSY, no read or write changes the buffers, the line, the
sequencers, POLL_STATUS, SRQ or a bank (R84, R85, R340). -/
def Obligations.HostCannotTouchARunningCommand : Prop :=
  ∀ (s t : State) (acc : BusAccess), busy s = true → hostAccess acc s = .next t → SameRun s t

/-- A command in flight runs the same whatever the host does: two states that differ only in the RW registers, the
rejection flags, the read data and the host's coming cycles (none of them a reset) still differ in nothing else after a step
(R84, R85, R340). -/
def Obligations.RunningCommandIgnoresTheHost : Prop :=
  ∀ s s' t t' : State, SameRun s s' → busy s = true →
    (hostNow s).rstN = true → (hostNow s').rstN = true →
    step s = .next t → step s' = .next t' → SameRun t t'

/-- What is written to an RW register reads back with its reserved bits 0, and the write changes the RW registers only
(R26, R28 to R32, R77); which bits of the word each field takes: CONFIG (R26), LISTEN_TIMEOUT (R28), RETRY (R29), READY_POLL (R30),
TXLEN (R31), TXBUF0 to TXBUF3 (R32). -/
def Obligations.RegisterWriteReadsBack : Prop :=
  (∀ (s : State) (a : Offset) (v m : Word), rwMask (regIndex a) = some m →
    ∃ t, hostAccess (.write a v) s = .next t ∧ readWord t (regIndex a) = v &&& m ∧
      { t with regs := s.regs } = s ∧
      (∀ i, i ≠ regIndex a → rwMask i ≠ none → readWord t i = readWord s i)) ∧
  (∀ (s : State) (a : Offset) (v : Word),
    (regIndex a = 0x02 →
      hostAccess (.write a v) s = .next
        { s with
          regs := { s.regs with breakEn := v.getLsbD 0, rs485 := v.getLsbD 1, strictBlk := v.getLsbD 2 } }) ∧
    (regIndex a = 0x03 →
      hostAccess (.write a v) s = .next { s with regs := { s.regs with ltMs := v.extractLsb' 0 16 } }) ∧
    (regIndex a = 0x04 →
      hostAccess (.write a v) s = .next
        { s with
          regs := { s.regs with issueAttempts := v.extractLsb' 0 4, blockAttempts := v.extractLsb' 4 4 } }) ∧
    (regIndex a = 0x05 →
      hostAccess (.write a v) s = .next { s with regs := { s.regs with rpMs := v.extractLsb' 0 10 } }) ∧
    (regIndex a = 0x06 →
      hostAccess (.write a v) s = .next { s with regs := { s.regs with txlen := v.extractLsb' 0 5 } }) ∧
    (regIndex a = 0x07 → hostAccess (.write a v) s = .next { s with regs := { s.regs with txbuf0 := v } }) ∧
    (regIndex a = 0x08 → hostAccess (.write a v) s = .next { s with regs := { s.regs with txbuf1 := v } }) ∧
    (regIndex a = 0x09 → hostAccess (.write a v) s = .next { s with regs := { s.regs with txbuf2 := v } }) ∧
    (regIndex a = 0x0A → hostAccess (.write a v) s = .next { s with regs := { s.regs with txbuf3 := v } }))

/-- Every read but RXDATA answers the register as it stands and has no side effect; every write that reaches neither CMD,
STATUS nor an RW register is ignored (R73, R77). What stands at the read-only part of the map (R72): STATUS at 0x004, POLL_STATUS at
0x040, SRQ at 0x044, and for each bank, the moisture bank at 0x100 and the temperature bank at 0x200, RD_STATUS, the six VALDEC words,
the six VALF64 pairs with the low word first (R75) and the bytes of RAW, byte lane `i` of word `w` being byte `4w + i` (R74). -/
def Obligations.PlainAccessesHaveNoSideEffect : Prop :=
  (∀ (s : State) (a : Offset),
    (regIndex a ≠ 0x0C → hostAccess (.read a) s = .next { s with rdata := readWord s (regIndex a) }) ∧
    (∀ v, 1 < regIndex a → rwMask (regIndex a) = none → hostAccess (.write a v) s = .next s)) ∧
  (∀ s : State,
    readWord s (regIndex 0x004) = statusWord s ∧ readWord s (regIndex 0x040) = pollStatusWord s.poll ∧
    readWord s (regIndex 0x044) = srqWord s.srq) ∧
  (∀ (s : State) (base : Nat) (k : Bank),
    (base = regIndex 0x100 ∧ k = s.moisture) ∨ (base = regIndex 0x200 ∧ k = s.temperature) →
    readWord s base = rdStatusWord k ∧
    (∀ j, j < 6 →
      readWord s (base + 4 + j) = six k.valdec j ∧
      readWord s (base + 12 + 2 * j) = (six k.valf64 j).extractLsb' 0 32 ∧
      readWord s (base + 13 + 2 * j) = (six k.valf64 j).extractLsb' 32 32) ∧
    (∀ w i, w < 17 → i < 4 →
      (readWord s (base + 24 + w)).extractLsb' (8 * i) 8 = k.raw.getD (4 * w + i) 0)) ∧
  (∀ (α : Type) (v : Six α),
    six v 0 = v.x0 ∧ six v 1 = v.x1 ∧ six v 2 = v.x2 ∧ six v 3 = v.x3 ∧ six v 4 = v.x4 ∧ six v 5 = v.x5)

/-- A read of CMD or of an offset outside the map of R72 returns 0 (R73). -/
def Obligations.UnmappedOffsetsReadZero : Prop :=
  ∀ (s : State) (a : Offset), regIndex a = 0 ∨ ¬ mappedIndex (regIndex a) →
    hostAccess (.read a) s = .next { s with rdata := 0 }

/-- Address bits 1:0 are ignored in every access (R71, R79). -/
def Obligations.AddressLowBitsAreIgnored : Prop :=
  ∀ (s : State) (acc : BusAccess), hostAccess acc s = hostAccess (alignAccess acc) s

/-- The fields of the STATUS word (R25), and the output pins (R223 to R226, R370): while `rst_n = 1`, `tx_en` in Holding and
Transmitting exactly, `rs485_mode` as CONFIG.RS485, `txd` the bit of the frame on the line, and 1 in a mark; while `rst_n = 0`, 0, 0
and 1; `txd` at 1 whenever the transmitter is idle. With the buffers within their bounds the two 8-bit length
fields show the lengths whole (RXQ_DEPTH is at most 255, R6). -/
def Obligations.StatusWordAndPins : Prop :=
  ∀ s : State,
    (statusWord s).extractLsb' 0 2 = s.line.mode.toBits ∧
    (statusWord s).getLsbD 2 = decide (s.line.mode ≠ .disabled) ∧
    (statusWord s).getLsbD 3 = s.line.owner ∧
    (statusWord s).getLsbD 4 = decide (s.xport.seq ≠ .idle ∨ s.engine.seq ≠ .idle) ∧
    (statusWord s).getLsbD 5 = decide (s.engine.seq ≠ .idle) ∧
    (statusWord s).getLsbD 6 = s.fifo.ovf ∧
    (statusWord s).getLsbD 7 = s.err.cmdErr ∧
    (statusWord s).extractLsb' 8 3 = s.err.errCause ∧
    (statusWord s).getLsbD 11 = s.err.actResult ∧
    (statusWord s).getLsbD 12 = s.line.rxqOvr ∧
    (statusWord s).getLsbD 13 = decide (s.line.tx ≠ .idle) ∧
    (statusWord s).getLsbD 14 = decide (s.xport.seq = .listen) ∧
    (statusWord s).getLsbD 15 = false ∧
    (statusWord s).extractLsb' 16 8 = BitVec.ofNat 8 s.fifo.q.length ∧
    (statusWord s).extractLsb' 24 8 = BitVec.ofNat 8 s.line.rxq.length ∧
    (BufferSafe s →
      ((statusWord s).extractLsb' 16 8).toNat = s.fifo.q.length ∧
      ((statusWord s).extractLsb' 24 8).toNat = s.line.rxq.length) ∧
    (txEn s = true ↔
      (hostNow s).rstN = true ∧ (s.line.mode = .holding ∨ s.line.mode = .transmitting)) ∧
    ((hostNow s).rstN = true → rs485Mode s = s.regs.rs485) ∧
    ((hostNow s).rstN = false → rs485Mode s = false ∧ txd s = true) ∧
    (s.line.tx = .idle → txd s = true) ∧ (∀ n, s.line.tx = .mark n → txd s = true) ∧
    (∀ r bits bit cyc, (hostNow s).rstN = true → s.line.tx = .frame r bits bit cyc →
      txd s = bits.getLsbD bit)

/-- The fields of POLL_STATUS (R33), SRQ (R34), RD_STATUS (R35) and VALDEC (R304). -/
def Obligations.ResultWordFields : Prop :=
  (∀ p : PollStatus,
    (pollStatusWord p).getLsbD 0 = p.done ∧ (pollStatusWord p).extractLsb' 1 3 = p.phase ∧
    (pollStatusWord p).extractLsb' 4 4 = p.result ∧ (pollStatusWord p).getLsbD 8 = p.blk0Fail ∧
    (pollStatusWord p).getLsbD 9 = p.blk1Fail ∧ (pollStatusWord p).getLsbD 10 = p.ncf ∧
    (pollStatusWord p).getLsbD 11 = p.ovfSeen ∧ (pollStatusWord p).getLsbD 12 = p.readyEarly ∧
    (pollStatusWord p).extractLsb' 13 2 = p.kind ∧ (pollStatusWord p).getLsbD 15 = false ∧
    (pollStatusWord p).extractLsb' 16 4 = p.issueTries ∧ (pollStatusWord p).extractLsb' 20 4 = p.blk0Tries ∧
    (pollStatusWord p).extractLsb' 24 4 = p.blk1Tries ∧ (pollStatusWord p).extractLsb' 28 4 = 0) ∧
  (∀ q : Srq,
    (srqWord q).extractLsb' 0 8 = q.addr ∧ (srqWord q).extractLsb' 8 10 = q.ttt ∧
    (srqWord q).extractLsb' 18 4 = q.n ∧ (srqWord q).extractLsb' 22 9 = 0 ∧ (srqWord q).getLsbD 31 = q.valid) ∧
  (∀ k : Bank,
    (rdStatusWord k).getLsbD 0 = k.valid ∧ (rdStatusWord k).extractLsb' 1 7 = 0 ∧
    (rdStatusWord k).extractLsb' 8 8 = k.addr ∧ (rdStatusWord k).extractLsb' 16 7 = k.rawLen ∧
    (rdStatusWord k).extractLsb' 23 9 = 0) ∧
  (∀ v : Value, v.mant ≤ 99999999 → v.scale ≤ 7 →
    ((decWord v).extractLsb' 0 27).toNat = v.mant ∧ ((decWord v).extractLsb' 27 3).toNat = v.scale ∧
    (decWord v).getLsbD 30 = v.neg ∧ (decWord v).getLsbD 31 = false)

/-! ### The Receive Buffer -/

/-- The overflow latch after each operation, and what each operation makes of the contents (R141, R142, R145 to R147): the
table of R147. -/
def Obligations.ReceiveBufferOperations : Prop :=
  ∀ (f : Fifo) (x : Byte) (p : List Byte),
    (f.q.length = 64 → fifoAppend x f = { q := f.q, ovf := true }) ∧
    (f.q.length < 64 → fifoAppend x f = { q := f.q ++ [x], ovf := f.ovf }) ∧
    (f.q = [] → fifoRead f = { q := [], ovf := false }) ∧
    (∀ y rest, f.q = y :: rest → fifoRead f = { q := rest, ovf := false }) ∧
    fifoFlush = { q := [], ovf := false } ∧
    fifoDrain f = { q := [], ovf := f.ovf } ∧
    (fifoStrip p f).ovf = f.ovf

/-- Appending any run of bytes keeps the first 64 and latches the overflow exactly when some byte was dropped, so the
over-limit bytes are never returned (R140, R141, L1-1 of 95_test_vectors.md). -/
def Obligations.OverflowKeepsTheFirst64 : Prop :=
  ∀ (xs : List Byte) (f : Fifo), f.q.length ≤ 64 →
    xs.foldl (fun g x => fifoAppend x g) f =
      { q := (f.q ++ xs).take 64, ovf := f.ovf || decide (64 < f.q.length + xs.length) }

/-- STRIP(P) for a non-empty P (R182): an occurrence at position 0 is removed, else one at position 1, else nothing; the
rest stays in order, and the overflow latch is unchanged. -/
def Obligations.StripRemovesOneLeadingEcho : Prop :=
  ∀ (p : List Byte) (f : Fifo), p ≠ [] →
    (fifoStrip p f).ovf = f.ovf ∧
    (∀ rest, f.q = p ++ rest → (fifoStrip p f).q = rest) ∧
    (∀ x rest, ¬ p <+: f.q → f.q = x :: (p ++ rest) → (fifoStrip p f).q = x :: rest) ∧
    (¬ p <+: f.q → ¬ (∃ x rest, f.q = x :: (p ++ rest)) → (fifoStrip p f).q = f.q)

/-! ### Reply parsing and numeric conversion -/

/-- PARSE_SRQ accepts exactly the replies that end in address, three digits, a digit '1' to '9', CR LF, and reads those
fields (R301); every other reply is FAIL. -/
def Obligations.ParseSrqExactly : Prop :=
  ∀ (r : List Byte) (a : Byte) (t n : Nat),
    parseSrq r = some (a, t, n) ↔
      ∃ (before : List Byte) (d2 d1 d0 c : Byte),
        r = before ++ [a, d2, d1, d0, c, 0x0D, 0x0A] ∧
        (∀ x ∈ [d2, d1, d0], 0x30 ≤ x.toNat ∧ x.toNat ≤ 0x39) ∧ 0x31 ≤ c.toNat ∧ c.toNat ≤ 0x39 ∧
        t = 100 * (d2.toNat - 0x30) + 10 * (d1.toNat - 0x30) + (d0.toNat - 0x30) ∧ n = c.toNat - 0x30

/-- PARSE_DATA accepts exactly the replies longer than 3 that end in CR LF and whose three clipped slices are non-empty and
not headed by NUL, and answers those slices (R302); every other reply is FAIL. -/
def Obligations.ParseDataExactly : Prop :=
  ∀ r f0 f1 f2 : List Byte,
    parseData r = some (f0, f1, f2) ↔
      3 < r.length ∧ (∃ body, r = body ++ [0x0D, 0x0A]) ∧
      f0 = (r.drop 2).take 8 ∧ f1 = (r.drop 11).take 8 ∧ f2 = (r.drop 20).take 8 ∧
      ∀ f ∈ [f0, f1, f2], ∃ x rest, f = x :: rest ∧ x ≠ 0x00

/-- NUMERIC accepts exactly an optional sign, digits, an optional point and digits, with at least one digit, and answers the
sign, the digits as one number and the count of fraction digits; from a field of at most 8 bytes the mantissa is at most
99,999,999 and the scale at most 7 (R303). `decVal` is the value of a digit string (R300). -/
def Obligations.NumericGrammar : Prop :=
  (∀ (f : List Byte) (v : Value),
    numeric f = some v ↔
      ∃ sign d1 point d2 : List Byte,
        f = sign ++ d1 ++ point ++ d2 ∧ (sign = [] ∨ sign = [0x2B] ∨ sign = [0x2D]) ∧
        (point = [0x2E] ∨ (point = [] ∧ d2 = [])) ∧
        (∀ x ∈ d1 ++ d2, 0x30 ≤ x.toNat ∧ x.toNat ≤ 0x39) ∧ d1 ++ d2 ≠ [] ∧
        v.neg = decide (sign = [0x2D]) ∧ v.mant = decVal (d1 ++ d2) ∧ v.scale = d2.length) ∧
  (∀ (f : List Byte) (v : Value), f.length ≤ 8 → numeric f = some v → v.mant ≤ 99999999 ∧ v.scale ≤ 7) ∧
  decVal [] = 0 ∧
  (∀ (d : List Byte) (x : Byte), decVal (d ++ [x]) = 10 * decVal d + (x.toNat - 0x30))

/-- The text of a value parsed from a field of at most 8 bytes has at most 10 bytes (R308), and the raw text of six such values
has at most 67 bytes, so it fits the RAW window (R309). -/
def Obligations.RawTextFitsTheWindow : Prop :=
  (∀ (f : List Byte) (v : Value), f.length ≤ 8 → numeric f = some v → (formatValue v).length ≤ 10) ∧
  (∀ (a : Byte) (f : Nat → List Byte) (v : Six Value),
    (∀ j, j < 6 → (f j).length ≤ 8 ∧ numeric (f j) = some (six v j)) → (formatRaw a v).length ≤ 67)

/-- The text of a value reads back: NUMERIC of FORMAT_VALUE gives the same sign and the same number (R303, R308). -/
def Obligations.FormattedTextReadsBack : Prop :=
  ∀ v : Value, ∃ w : Value, numeric (formatValue v) = some w ∧ w.neg = v.neg ∧ magnitude w = magnitude v

/-- F64 is the nearest binary64 number (R305): every other finite binary64 magnitude is farther from the value than the one F64
gives (for these values no two numbers are equally near); the sign bit is the value's sign; the result is a finite normal number,
or a zero for `M = 0`. The rounding F64 uses answers the lower or the upper integer, and the even one of two equally near ones. -/
def Obligations.F64IsTheNearestBinary64 : Prop :=
  (∀ v : Value, v.mant ≤ 99999999 → v.scale ≤ 7 →
    (f64Word v).getLsbD 63 = v.neg ∧
    (v.mant = 0 → f64Word v = if v.neg then 0x8000000000000000 else 0) ∧
    (v.mant ≠ 0 → 0 < ((f64Word v).setWidth 63).toNat / 2 ^ 52) ∧
    ((f64Word v).setWidth 63).toNat / 2 ^ 52 < 2047 ∧
    ∀ y : BitVec 63, y.toNat / 2 ^ 52 < 2047 → y ≠ (f64Word v).setWidth 63 →
      |f64Rational ((f64Word v).setWidth 63) - magnitude v| < |f64Rational y - magnitude v|) ∧
  (∀ n d : Nat,
    (roundDiv n d = n / d ∨ roundDiv n d = n / d + 1) ∧ (2 * (n % d) = d → roundDiv n d % 2 = 0))

/-- The address set is the 62 alphanumeric ASCII characters, and any other byte makes the POLL finish with result 1 (R310); a notice
is a reply that begins with the address, CR and LF (R311). -/
def Obligations.AddressSetAndNotice : Prop :=
  (∀ x : Byte, addrValid x = true ↔
    (0x30 ≤ x.toNat ∧ x.toNat ≤ 0x39) ∨ (0x41 ≤ x.toNat ∧ x.toNat ≤ 0x5A) ∨ (0x61 ≤ x.toNat ∧ x.toNat ≤ 0x7A)) ∧
  (∀ (s : State) (x : Bool),
    (s.engine.seq = .start → addrValid s.engine.addr = false →
      (engineStep x s).engine.result = 1 ∧ (engineStep x s).engine.seq = .finish) ∧
    (s.engine.seq = .finish →
      (engineStep x s).poll.result = s.engine.result ∧ (engineStep x s).poll.done = true ∧
      (engineStep x s).engine.seq = .idle)) ∧
  (∀ (r : List Byte) (a : Byte), isNotice r a = true ↔ [a, 0x0D, 0x0A] <+: r)

/-! ### The serial line -/

/-- The character frame (R112): start bit 0, the data bits in order, a parity bit that makes the count of ones even, stop
bit 1. -/
def Obligations.CharacterFrame : Prop :=
  ∀ c : Char7,
    (frameBits c).getLsbD 0 = false ∧ (∀ i : Fin 7, (frameBits c).getLsbD (i.val + 1) = c.getLsbD i.val) ∧
    ((List.range 8).countP (fun i => (frameBits c).getLsbD (i + 1))) % 2 = 0 ∧ (frameBits c).getLsbD 9 = true

/-- A frame occupies ten bit times (R223): bit `n / bc` is on the line in cycle `n` of the frame, and the transmitter is
idle again after exactly `10 * bc` cycles, `bc` being `CLK_HZ / 1200` at the normal rate and twice that at the break rate (R6, R222).
A mark of `n` cycles holds the line at 1 for `n` cycles, and an idle transmitter stays idle. -/
def Obligations.FrameOccupiesTenBitTimes : Prop :=
  (∀ (p : Params) (rate : Rate) (bits : BitVec 10),
    (∀ n, n < 10 * bitCyclesAt p rate →
      (txNext p)^[n] (.frame rate bits 0 0) ≠ .idle ∧
      txLevel ((txNext p)^[n] (.frame rate bits 0 0)) = bits.getLsbD (n / bitCyclesAt p rate)) ∧
    (txNext p)^[10 * bitCyclesAt p rate] (.frame rate bits 0 0) = .idle) ∧
  (∀ p : Params,
    bitCyclesAt p .normal = clkHz p / 1200 ∧ bitCyclesAt p .slow = 2 * (clkHz p / 1200) ∧
    txNext p .idle = .idle ∧
    ∀ n, 0 < n →
      (∀ k, k < n → (txNext p)^[k] (.mark n) ≠ .idle ∧ txLevel ((txNext p)^[k] (.mark n)) = true) ∧
      (txNext p)^[n] (.mark n) = .idle)

/-- The receiver and its queue (R227 to R230), and a zero-delay echo (R231). Cycle by cycle: RX_OFF receives nothing; RX_WAIT_HIGH
goes to RX_HUNT at the first 1; RX_HUNT begins a frame at a 0, at the line's rate; in a frame the start check comes half a bit after
`c0` and each later sample one bit after the one before; a false start returns to RX_HUNT; sample 1 to 7 sets its data bit; the parity
sample is not checked; the stop sample delivers the seven bits whatever its level, and a 0 there leads to RX_WAIT_HIGH. In a cycle that
does not write the receiver (log 7) the clock edge moves it so, with the level sampled and the rate at the start of the cycle (log 9),
and a delivered character is appended with bit 7 = 0 to `rxq` as the sequencers left it, or dropped with RXQ_OVR set when `rxq` was
full at the start of the cycle (R80, R230, log 8); in any other cycle the receiver and its queue stay as written. The level sampled is the next one of the model's list
`rxd` (log 4). A hunting receiver that hears the block's own frame in every cycle delivers its character, once, at the stop sample,
before the frame has ended. -/
def Obligations.ZeroDelayEchoIsDelivered : Prop :=
  (∀ (p : Params) (rate : Rate) (level : Bool),
    rxNext p rate level .off = ⟨.off, none⟩ ∧
    rxNext p rate level .waitHigh = ⟨if level then .hunt else .waitHigh, none⟩ ∧
    rxNext p rate level .hunt = ⟨if level then .hunt else .frame rate 0 0 0, none⟩ ∧
    ∀ (r : Rate) (i cyc gap : Nat) (d : Char7),
      gap = (if i = 0 then bitCyclesAt p r / 2 else bitCyclesAt p r) →
      (cyc + 1 < gap → rxNext p rate level (.frame r i cyc d) = ⟨.frame r i (cyc + 1) d, none⟩) ∧
      (gap ≤ cyc + 1 → i = 0 →
        rxNext p rate level (.frame r i cyc d) = ⟨if level then .hunt else .frame r 1 0 d, none⟩) ∧
      (gap ≤ cyc + 1 → 1 ≤ i → i ≤ 7 →
        ∃ e : Char7, rxNext p rate level (.frame r i cyc d) = ⟨.frame r (i + 1) 0 e, none⟩ ∧
          ∀ k, k < 7 → e.getLsbD k = if k = i - 1 then level else d.getLsbD k) ∧
      (gap ≤ cyc + 1 → i = 8 → rxNext p rate level (.frame r i cyc d) = ⟨.frame r 9 0 d, none⟩) ∧
      (gap ≤ cyc + 1 → i = 9 →
        rxNext p rate level (.frame r i cyc d) = ⟨if level then .hunt else .waitHigh, some d⟩)) ∧
  (∀ (s t u : State) (after : RxStep), u = enginePhase s (transportPhase s t) →
    after = rxNext u.params s.line.rate (rxdNow s) s.line.rx →
    (u.line.rx ≠ s.line.rx →
      (clockEdge s t).line.rx = u.line.rx ∧ (clockEdge s t).line.rxq = u.line.rxq ∧
      (clockEdge s t).line.rxqOvr = u.line.rxqOvr) ∧
    (u.line.rx = s.line.rx → (clockEdge s t).line.rx = after.rx) ∧
    (u.line.rx = s.line.rx → after.delivered = none →
      (clockEdge s t).line.rxq = u.line.rxq ∧ (clockEdge s t).line.rxqOvr = u.line.rxqOvr) ∧
    (∀ c, u.line.rx = s.line.rx → after.delivered = some c → s.line.rxq.length < rxqDepth u.params →
      (clockEdge s t).line.rxq = u.line.rxq ++ [c.setWidth 8] ∧
      (clockEdge s t).line.rxqOvr = u.line.rxqOvr) ∧
    (∀ c, u.line.rx = s.line.rx → after.delivered = some c → rxqDepth u.params ≤ s.line.rxq.length →
      (clockEdge s t).line.rxq = u.line.rxq ∧ (clockEdge s t).line.rxqOvr = true)) ∧
  (∀ (s : State) (x : Bool) (rest : List Bool), s.rxd = x :: rest → rxdNow s = x) ∧
  (∀ (p : Params) (rate : Rate) (c : Char7) (n : Nat), n < 10 * bitCyclesAt p rate →
    loopDelivers p rate (.frame rate (frameBits c) 0 0, .hunt) n =
      if n = bitCyclesAt p rate / 2 + 9 * bitCyclesAt p rate then some c else none)

/-! ### The transport sequencer -/

/-- WAKE_SEQ (R178). X_WAKE: SET_MODE(2), and with the break enabled the 0x00 frame at 600 baud, else the next state at once.
X_BREAK: when the frame is sent, 1200 baud again, then the mark or the next state. X_MARK: when the mark is over, the next
state. -/
def Obligations.WakeSequenceSteps : Prop :=
  ∀ (s : State) (after : XSeq) (open' : RxState),
    after = (if s.xport.sendThenListen then XSeq.write else XSeq.idle) →
    open' = (if s.line.mode = .disabled then RxState.waitHigh else s.line.rx) →
    (s.xport.seq = .wake → s.xport.breakEn = true →
      transportStep s =
        { s with
          xport := { s.xport with seq := .brk },
          line :=
            { s.line with
              mode := .transmitting, rx := open', rate := .slow, tx := .frame .slow (frameBits 0) 0 0 } }) ∧
    (s.xport.seq = .wake → s.xport.breakEn = false →
      transportStep s =
        { s with
          xport := { s.xport with seq := after },
          line := { s.line with mode := .transmitting, rx := open' } }) ∧
    (s.xport.seq = .brk → s.line.tx ≠ .idle → transportStep s = s) ∧
    (s.xport.seq = .brk → s.line.tx = .idle → s.params.markBits = 0 →
      transportStep s =
        { s with xport := { s.xport with seq := after }, line := { s.line with rate := .normal } }) ∧
    (s.xport.seq = .brk → s.line.tx = .idle → 0 < s.params.markBits →
      transportStep s =
        { s with
          xport := { s.xport with seq := .mark },
          line := { s.line with rate := .normal, tx := .mark (s.params.markBits * bitCycles s.params) } }) ∧
    (s.xport.seq = .mark → s.line.tx ≠ .idle → transportStep s = s) ∧
    (s.xport.seq = .mark → s.line.tx = .idle →
      transportStep s = { s with xport := { s.xport with seq := after } })

/-- X_WRITE (R179, R180): wait for the transmitter, send the next latched character at the line's rate, and after the last
one reset the input queue and start the listen, leaving `Q` and the receiver's frame alone. -/
def Obligations.WriteSequenceSteps : Prop :=
  ∀ s : State, s.xport.seq = .write →
    (s.line.tx ≠ .idle → transportStep s = s) ∧
    (∀ c, s.line.tx = .idle → s.xport.wi < s.xport.cmdlLen → s.xport.cmdl[s.xport.wi]? = some c →
      transportStep s =
        { s with
          line := { s.line with tx := .frame s.line.rate (frameBits c) 0 0 },
          xport := { s.xport with wi := s.xport.wi + 1 } }) ∧
    (s.line.tx = .idle → s.xport.cmdlLen ≤ s.xport.wi →
      transportStep s =
        { s with
          line := { s.line with rxq := [], rxqOvr := false },
          xport := { s.xport with seq := .lstart } })

/-- LISTEN_LOOP (R181). X_LSTART: SET_MODE(3) and a cleared idle count. X_LISTEN: one byte from `rxq` to `Q`, else the end when
the idle count has reached the timeout, with the strip of the latched echo when there is one, else one more idle cycle. -/
def Obligations.ListenLoopSteps : Prop :=
  ∀ s : State,
    (s.xport.seq = .lstart →
      transportStep s =
        { s with
          xport := { s.xport with seq := .listen, idle := 0 },
          line :=
            { s.line with
              mode := .listening, rx := if s.line.mode = .disabled then .waitHigh else s.line.rx } }) ∧
    (∀ x rest, s.xport.seq = .listen → s.line.rxq = x :: rest →
      transportStep s =
        { s with
          line := { s.line with rxq := rest }, fifo := fifoAppend x s.fifo,
          xport := { s.xport with idle := 0 } }) ∧
    (s.xport.seq = .listen → s.line.rxq = [] → s.xport.idle < s.xport.ltCycles →
      transportStep s = { s with xport := { s.xport with idle := s.xport.idle + 1 } }) ∧
    (s.xport.seq = .listen → s.line.rxq = [] → s.xport.ltCycles ≤ s.xport.idle → s.xport.echoLen = 0 →
      transportStep s = { s with xport := { s.xport with seq := .idle } }) ∧
    (s.xport.seq = .listen → s.line.rxq = [] → s.xport.ltCycles ≤ s.xport.idle → 0 < s.xport.echoLen →
      transportStep s =
        { s with
          xport := { s.xport with seq := .idle },
          fifo := fifoStrip ((s.xport.cmdl.take s.xport.echoLen).map (fun c => c.setWidth 8)) s.fifo })

/-- A silent listen ends on time (R181, R184, R380), with and without ECHO: from a state that is not BUSY, with an empty queue, a
quiet host after the command and a line that stays at 1 while the receiver is not inside a frame, LISTEN with timeout `L` cycles is
BUSY for exactly `L + 2` cycles after its acceptance, and then leaves Listening; `Q` is as it was without ECHO, and stripped of the
pattern once with it, the pattern being the first LEN bytes of TXBUF with bit 7 cleared (R182). -/
def Obligations.SilentListenEndsOnTime : Prop :=
  ∀ (echo : Bool) (s : State) (L : Nat), busy s = false → s.line.rxq = [] →
    (echo = true → s.regs.txlen.toNat ≤ 16) →
    s.line.rx = .off ∨ s.line.rx = .waitHigh ∨ s.line.rx = .hunt →
    s.host = [⟨true, some (encode (.listen echo))⟩] →
    L = s.regs.ltMs.toNat * tickCycles s.params → s.rxd = List.replicate (L + 3) true →
    (∀ n, n < L + 2 → ∃ t, RunsTo (n + 1) s t ∧ busy t = true) ∧
    (∃ t, RunsTo (L + 3) s t ∧ busy t = false ∧ t.line.mode = .listening ∧
      (echo = false → t.fifo = s.fifo) ∧
      (∀ p : List Byte, echo = true → p.length = s.regs.txlen.toNat →
        (∀ n, n < p.length → p[n]? =
          ([s.regs.txbuf0, s.regs.txbuf1, s.regs.txbuf2, s.regs.txbuf3][n / 4]?).map
            (fun w => ((w.extractLsb' (8 * (n % 4)) 8).setWidth 7).setWidth 8)) →
        t.fifo = fifoStrip p s.fifo))

/-! ### The engine -/

/-- P_START and P_FINISH (R252, R263). P_START flushes the buffer first; a KIND of 2 or 3 or an address outside the set finishes
with result 1; otherwise the start command is built and the issue phase begins. P_FINISH flushes the buffer and writes RESULT,
DONE and PHASE 0. -/
def Obligations.PollBeginsAndEnds : Prop :=
  ∀ (s : State) (x : Bool),
    (s.engine.seq = .start → 2 ≤ s.engine.kind.toNat ∨ addrValid s.engine.addr = false →
      engineStep x s =
        { s with
          fifo := { q := [], ovf := false },
          engine := { s.engine with result := 1, seq := .finish } }) ∧
    (s.engine.seq = .start → s.engine.kind.toNat < 2 → addrValid s.engine.addr = true →
      engineStep x s =
        { s with
          fifo := { q := [], ovf := false },
          engine :=
            { s.engine with
              cmdp := [s.engine.addr, 0x4D, if s.engine.kind = 0 then 0x30 else 0x31, 0x21], tries := 0,
              seq := .issueSend },
          poll := { s.poll with phase := 1 } }) ∧
    (s.engine.seq = .finish →
      engineStep x s =
        { s with
          fifo := { q := [], ovf := false },
          engine := { s.engine with seq := .idle },
          poll := { s.poll with result := s.engine.result, done := true, phase := 0 } })

/-- P_ISSUE_SEND and P_ISSUE_CHECK (R253, R255), and what START_SEND writes (R266): exhausted attempts finish with result 2;
otherwise one more attempt is counted and the start command handed to the transport; a reply that does not parse goes back for
a retry; one that parses fills SRQ and starts the ready-wait now. That START_SEND keeps `cmdl` past its four characters, and `idle`, as
they were is the model's choice (log 13). -/
def Obligations.StartAttempts : Prop :=
  ∀ s : State,
    (∀ p : List Byte, p.length = 4 →
      startSend p s =
        { s with
          xport :=
            { s.xport with
              cmdl := p.map (fun x => x.extractLsb' 0 7) ++ s.xport.cmdl.drop 4, cmdlLen := 4, echoLen := 4,
              wi := 0, sendThenListen := true, ltCycles := 1000 * (clkHz s.params / 1000), caller := .engine,
              seq := .wake } }) ∧
    (s.engine.seq = .issueSend → s.engine.ia.toNat ≤ s.engine.tries.toNat →
      engineStep true s = { s with engine := { s.engine with result := 2, seq := .finish } }) ∧
    (s.engine.seq = .issueSend → s.engine.tries.toNat < s.engine.ia.toNat →
      engineStep true s =
        startSend s.engine.cmdp
          { s with
            engine := { s.engine with tries := s.engine.tries + 1, seq := .issueCheck },
            poll := { s.poll with issueTries := s.engine.tries + 1 } }) ∧
    (s.engine.seq = .issueCheck → engineStep false s = s) ∧
    (s.engine.seq = .issueCheck → parseSrq s.fifo.q = none →
      engineStep true s =
        { s with
          engine := { s.engine with resp := s.fifo.q, seq := .issueSend },
          poll := { s.poll with ovfSeen := s.poll.ovfSeen || s.fifo.ovf },
          fifo := { q := [], ovf := false } }) ∧
    (∀ a t n, s.engine.seq = .issueCheck → parseSrq s.fifo.q = some (a, t, n) →
      engineStep true s =
        { s with
          engine :=
            { s.engine with
              resp := s.fifo.q, srqA := a, srqT := BitVec.ofNat 10 t, srqN := BitVec.ofNat 4 n, t0 := s.now,
              seq := .readyListen },
          srq := { addr := a, ttt := BitVec.ofNat 10 t, n := BitVec.ofNat 4 n, valid := true },
          poll := { s.poll with ovfSeen := s.poll.ovfSeen || s.fifo.ovf, phase := 2 },
          fifo := { q := [], ovf := false } })

/-- P_READY_LISTEN and P_READY_CHECK (R257): the window over, the data phase starts; otherwise one listen of the latched
interval; a notice ends the wait early; any other bytes are discarded and the window is looked at again. That START_LISTEN keeps the
latches it does not write is the model's choice (log 13). -/
def Obligations.ReadyWait : Prop :=
  ∀ s : State,
    (s.engine.seq = .readyListen →
      1000 * s.engine.srqT.toNat ≤ (s.now - s.engine.t0) / (clkHz s.params / 1000) →
      engineStep true s =
        { s with
          engine := { s.engine with count := 0, b := 0, tries := 0, seq := .dataSend },
          poll := { s.poll with phase := 3 } }) ∧
    (s.engine.seq = .readyListen →
      (s.now - s.engine.t0) / (clkHz s.params / 1000) < 1000 * s.engine.srqT.toNat →
      engineStep true s =
        { s with
          engine := { s.engine with seq := .readyCheck },
          xport :=
            { s.xport with
              echoLen := 0, ltCycles := s.engine.rp.toNat * (clkHz s.params / 1000), caller := .engine,
              seq := .lstart } }) ∧
    (s.engine.seq = .readyCheck → engineStep false s = s) ∧
    (s.engine.seq = .readyCheck → [s.engine.addr, 0x0D, 0x0A] <+: s.fifo.q →
      engineStep true s =
        { s with
          engine := { s.engine with resp := s.fifo.q, count := 0, b := 0, tries := 0, seq := .dataSend },
          poll :=
            { s.poll with ovfSeen := s.poll.ovfSeen || s.fifo.ovf, readyEarly := true, phase := 3 },
          fifo := { q := [], ovf := false } }) ∧
    (s.engine.seq = .readyCheck → ¬ [s.engine.addr, 0x0D, 0x0A] <+: s.fifo.q →
      engineStep true s =
        { s with
          engine := { s.engine with resp := s.fifo.q, seq := .readyListen },
          poll := { s.poll with ovfSeen := s.poll.ovfSeen || s.fifo.ovf },
          fifo := { q := [], ovf := false } })

/-- P_DATA_SEND (R258): the end of the due blocks; an exhausted block, which finishes with 4 + b in strict mode and degrades in
lenient mode, the running count rising by 3; otherwise one more attempt with the literal-'0' data command. -/
def Obligations.DataBlockAttempts : Prop :=
  ∀ s : State, s.engine.seq = .dataSend →
    (s.engine.srqN.toNat ≤ s.engine.count ∨ 2 ≤ s.engine.b →
      engineStep true s =
        { s with engine := { s.engine with seq := .convert }, poll := { s.poll with phase := 5 } }) ∧
    (s.engine.count < s.engine.srqN.toNat → s.engine.b = 0 → s.engine.ba.toNat ≤ s.engine.tries.toNat →
      engineStep true s =
        if s.engine.strict then
          { s with
            engine := { s.engine with blkOk0 := false, result := 4, seq := .finish },
            poll := { s.poll with blk0Fail := true } }
        else
          { s with
            engine :=
              { s.engine with
                blkOk0 := false, count := s.engine.count + 3, b := 1, tries := 0, seq := .dataSend },
            poll := { s.poll with blk0Fail := true, phase := 4 } }) ∧
    (s.engine.count < s.engine.srqN.toNat → s.engine.b = 1 → s.engine.ba.toNat ≤ s.engine.tries.toNat →
      engineStep true s =
        if s.engine.strict then
          { s with
            engine := { s.engine with blkOk1 := false, result := 5, seq := .finish },
            poll := { s.poll with blk1Fail := true } }
        else
          { s with
            engine :=
              { s.engine with
                blkOk1 := false, count := s.engine.count + 3, b := 2, tries := 0, seq := .dataSend },
            poll := { s.poll with blk1Fail := true, phase := 5 } }) ∧
    (s.engine.count < s.engine.srqN.toNat → s.engine.b ≤ 1 → s.engine.tries.toNat < s.engine.ba.toNat →
      engineStep true s =
        startSend [0x30, 0x44, 0x30 + BitVec.ofNat 8 s.engine.b, 0x21]
          { s with
            engine := { s.engine with tries := s.engine.tries + 1, seq := .dataCheck },
            poll :=
              if s.engine.b = 0 then { s.poll with blk0Tries := s.engine.tries + 1 }
              else { s.poll with blk1Tries := s.engine.tries + 1 } })

/-- P_DATA_CHECK (R259): a reply that PARSE_DATA refuses is retried within the block; one that parses fills the three fields of
the block, marks it parsed and goes on to the next block, the running count rising by 3. -/
def Obligations.DataReplyCheck : Prop :=
  ∀ s : State, s.engine.seq = .dataCheck →
    engineStep false s = s ∧
    (parseData s.fifo.q = none →
      engineStep true s =
        { s with
          engine := { s.engine with resp := s.fifo.q, seq := .dataSend },
          poll := { s.poll with ovfSeen := s.poll.ovfSeen || s.fifo.ovf },
          fifo := { q := [], ovf := false } }) ∧
    (∀ f0 f1 f2, parseData s.fifo.q = some (f0, f1, f2) → s.engine.b = 0 →
      engineStep true s =
        { s with
          engine :=
            { s.engine with
              resp := s.fifo.q, fields := { s.engine.fields with x0 := f0, x1 := f1, x2 := f2 },
              blkOk0 := true, count := s.engine.count + 3, b := 1, tries := 0, seq := .dataSend },
          poll := { s.poll with ovfSeen := s.poll.ovfSeen || s.fifo.ovf, phase := 4 },
          fifo := { q := [], ovf := false } }) ∧
    (∀ f0 f1 f2, parseData s.fifo.q = some (f0, f1, f2) → s.engine.b = 1 →
      engineStep true s =
        { s with
          engine :=
            { s.engine with
              resp := s.fifo.q, fields := { s.engine.fields with x3 := f0, x4 := f1, x5 := f2 },
              blkOk1 := true, count := s.engine.count + 3, b := 2, tries := 0, seq := .dataSend },
          poll := { s.poll with ovfSeen := s.poll.ovfSeen || s.fifo.ovf, phase := 5 },
          fifo := { q := [], ovf := false } })

/-- P_CONVERT (R261, R306): with every field of every parsed block numeric, the bank of the kind takes the values and their
raw text, a block that did not parse giving zeros (R260); with one field not numeric, all six values are zero, RAW_LEN is 0 and
NCF is set; the other bank is untouched and the result is 0 either way. -/
def Obligations.ConversionIsAllOrNothing : Prop :=
  ∀ s : State, s.engine.seq = .convert → s.engine.kind = 0 ∨ s.engine.kind = 1 →
    ∃ k : Bank,
      engineStep true s =
        { s with
          moisture := if s.engine.kind = 0 then k else s.moisture,
          temperature := if s.engine.kind = 0 then s.temperature else k,
          engine := { s.engine with result := 0, seq := .finish },
          poll := { s.poll with ncf := s.poll.ncf || someFieldNotNumeric s.engine } } ∧
      k.valid = true ∧ k.addr = s.engine.addr ∧
      (someFieldNotNumeric s.engine = true →
        k.rawLen = 0 ∧ k.raw = List.replicate 68 0 ∧
        ∀ j, j < 6 → six k.valdec j = 0 ∧ six k.valf64 j = 0) ∧
      (∀ (v : Nat → Value) (text : List Byte),
        (∀ j, j < 6 →
          (blockParsed s.engine j = true → numeric (six s.engine.fields j) = some (v j)) ∧
          (blockParsed s.engine j = false → v j = ⟨false, 0, 0⟩)) →
        text = formatRaw s.engine.addr ⟨v 0, v 1, v 2, v 3, v 4, v 5⟩ →
        (∀ j, j < 6 → six k.valdec j = decWord (v j) ∧ six k.valf64 j = f64Word (v j)) ∧
        k.rawLen = BitVec.ofNat 7 text.length ∧ k.raw = text ++ List.replicate (68 - text.length) 0)

/-- A POLL with a KIND that is no kind or an address outside the address set finishes with result 1 after three cycles, with `Q`
flushed, the line mode kept, SRQ 0, both banks unchanged and nothing sent (R251, R252, R263, R381). -/
def Obligations.UsageErrorPollTakesThreeCycles : Prop :=
  ∀ (s : State) (kind : BitVec 2) (addr : Byte), busy s = false → s.line.tx = .idle →
    s.host = [⟨true, some (encode (.poll kind addr))⟩] → 2 ≤ kind.toNat ∨ addrValid addr = false →
    ∃ t1 t2 t3, RunsTo 1 s t1 ∧ RunsTo 2 s t2 ∧ RunsTo 3 s t3 ∧ busy t1 = true ∧ busy t2 = true ∧ busy t3 = false ∧
      pollStatusWord t3.poll = kind.setWidth 32 <<< 13 ||| 0x11 ∧ t3.fifo = { q := [], ovf := false } ∧
      t3.line.mode = s.line.mode ∧ t1.line.tx = .idle ∧ t2.line.tx = .idle ∧ t3.line.tx = .idle ∧
      srqWord t3.srq = 0 ∧ t3.moisture = s.moisture ∧ t3.temperature = s.temperature

/-! ### Whole-machine rules and invariants -/

/-- A bank changes only in reset or in the P_CONVERT step of a POLL of its kind (R35, R262): a reading persists until the next
successful poll of the same kind. -/
def Obligations.BanksChangeOnlyInConversion : Prop :=
  ∀ s t : State, step s = .next t → (hostNow s).rstN = true →
    (t.moisture ≠ s.moisture → s.engine.seq = .convert ∧ s.engine.kind = 0) ∧
    (t.temperature ≠ s.temperature → s.engine.seq = .convert ∧ s.engine.kind = 1)

/-- The line mode changes only as R172 and R190 say: in X_WAKE to Transmitting, in X_LSTART to Listening, or by SETMODE, BEGIN,
END or SETACTIVE accepted while not BUSY. -/
def Obligations.ModeChangesOnlyAsTheSpecSays : Prop :=
  ∀ s t : State, step s = .next t → (hostNow s).rstN = true → t.line.mode ≠ s.line.mode →
    (s.xport.seq = .wake ∧ t.line.mode = .transmitting) ∨
    (s.xport.seq = .lstart ∧ t.line.mode = .listening) ∨
    (busy s = false ∧ ∃ acc, (hostNow s).access = some acc ∧
      ((∃ m, decode acc = .ok (.setmode m) ∧ t.line.mode = m) ∨
       (decode acc = .ok .busBegin ∧ t.line.mode = .holding) ∨
       (decode acc = .ok .busEnd ∧ t.line.mode = .disabled) ∨
       (decode acc = .ok .setactive ∧ s.line.owner = false ∧ t.line.mode = .holding)))

/-- The half-duplex rule (R191), in every state whose line and sequencers agree: a transmission starts only in X_WAKE, X_BREAK or
X_WRITE and the mode is then Transmitting; bytes enter `Q` only in X_LISTEN, where the mode is Listening. -/
def Obligations.HalfDuplex : Prop :=
  ∀ s t : State, LineSafe s → step s = .next t → (hostNow s).rstN = true →
    (s.line.tx = .idle → t.line.tx ≠ .idle →
      (s.xport.seq = .wake ∨ s.xport.seq = .brk ∨ s.xport.seq = .write) ∧ t.line.mode = .transmitting) ∧
    (s.fifo.q.length < t.fifo.q.length → s.xport.seq = .listen ∧ s.line.mode = .listening)

/-- The state after reset meets the four invariants. -/
def Obligations.ResetIsSafe : Prop :=
  LineSafe State.reset ∧ BufferSafe State.reset ∧ CodeSafe State.reset ∧ ReadingSafe State.reset

/-- Every step keeps the line and the sequencers in agreement (R22, R171, R178, R179, R191, R227, R267). -/
def Obligations.StepKeepsLineSafe : Prop :=
  ∀ s t : State, LineSafe s → step s = .next t → LineSafe t

/-- Every step keeps the bounds of the buffers and latches, `wi` among them (R36, R37, R38, R140, R229). -/
def Obligations.StepKeepsBufferSafe : Prop :=
  ∀ s t : State, BufferSafe s → step s = .next t → BufferSafe t

/-- Every step keeps the codes, counts and parsed fields in range (R25, R33, R34, R265, R341, R345, R346). -/
def Obligations.StepKeepsCodeSafe : Prop :=
  ∀ s t : State, CodeSafe s → step s = .next t → CodeSafe t

/-- Every step keeps the readings whole: a bank holds no reading, or a window of 68 bytes whose text is at most 67 long and whose
rest is 0 (R35, R38, R262, R309). -/
def Obligations.StepKeepsReadingSafe : Prop :=
  ∀ s t : State, ReadingSafe s → step s = .next t → ReadingSafe t
end

