-- ==== Sys2Proof/Laws/State.lean ====
section
/-! SUPPORT. What each update of the state leaves and sets, one lemma per field, each true by `rfl`; so no proof unfolds a
record update. -/

namespace Sys2Proof.Machine

/-! `setMode` -/

@[simp] theorem setMode_params (m : BusMode) (s : State) : (setMode m s).params = s.params := rfl
@[simp] theorem setMode_err (m : BusMode) (s : State) : (setMode m s).err = s.err := rfl
@[simp] theorem setMode_regs (m : BusMode) (s : State) : (setMode m s).regs = s.regs := rfl
@[simp] theorem setMode_fifo (m : BusMode) (s : State) : (setMode m s).fifo = s.fifo := rfl
@[simp] theorem setMode_line (m : BusMode) (s : State) :
    (setMode m s).line = setModeLine m s.line := rfl
@[simp] theorem setMode_xport (m : BusMode) (s : State) : (setMode m s).xport = s.xport := rfl
@[simp] theorem setMode_engine (m : BusMode) (s : State) : (setMode m s).engine = s.engine := rfl
@[simp] theorem setMode_poll (m : BusMode) (s : State) : (setMode m s).poll = s.poll := rfl
@[simp] theorem setMode_srq (m : BusMode) (s : State) : (setMode m s).srq = s.srq := rfl
@[simp] theorem setMode_moisture (m : BusMode) (s : State) : (setMode m s).moisture = s.moisture := rfl
@[simp] theorem setMode_temperature (m : BusMode) (s : State) : (setMode m s).temperature = s.temperature := rfl
@[simp] theorem setMode_now (m : BusMode) (s : State) : (setMode m s).now = s.now := rfl
@[simp] theorem setMode_rdata (m : BusMode) (s : State) : (setMode m s).rdata = s.rdata := rfl
@[simp] theorem setMode_host (m : BusMode) (s : State) : (setMode m s).host = s.host := rfl
@[simp] theorem setMode_rxd (m : BusMode) (s : State) : (setMode m s).rxd = s.rxd := rfl
@[simp] theorem setMode_draws (m : BusMode) (s : State) : (setMode m s).draws = s.draws := rfl

/-! `reject` -/

@[simp] theorem reject_params (k : BitVec 3) (s : State) : (reject k s).params = s.params := rfl
@[simp] theorem reject_err (k : BitVec 3) (s : State) :
    (reject k s).err = { s.err with cmdErr := true, errCause := k } := rfl
@[simp] theorem reject_regs (k : BitVec 3) (s : State) : (reject k s).regs = s.regs := rfl
@[simp] theorem reject_fifo (k : BitVec 3) (s : State) : (reject k s).fifo = s.fifo := rfl
@[simp] theorem reject_line (k : BitVec 3) (s : State) : (reject k s).line = s.line := rfl
@[simp] theorem reject_xport (k : BitVec 3) (s : State) : (reject k s).xport = s.xport := rfl
@[simp] theorem reject_engine (k : BitVec 3) (s : State) : (reject k s).engine = s.engine := rfl
@[simp] theorem reject_poll (k : BitVec 3) (s : State) : (reject k s).poll = s.poll := rfl
@[simp] theorem reject_srq (k : BitVec 3) (s : State) : (reject k s).srq = s.srq := rfl
@[simp] theorem reject_moisture (k : BitVec 3) (s : State) : (reject k s).moisture = s.moisture := rfl
@[simp] theorem reject_temperature (k : BitVec 3) (s : State) : (reject k s).temperature = s.temperature := rfl
@[simp] theorem reject_now (k : BitVec 3) (s : State) : (reject k s).now = s.now := rfl
@[simp] theorem reject_rdata (k : BitVec 3) (s : State) : (reject k s).rdata = s.rdata := rfl
@[simp] theorem reject_host (k : BitVec 3) (s : State) : (reject k s).host = s.host := rfl
@[simp] theorem reject_rxd (k : BitVec 3) (s : State) : (reject k s).rxd = s.rxd := rfl
@[simp] theorem reject_draws (k : BitVec 3) (s : State) : (reject k s).draws = s.draws := rfl

/-! `clearReject` -/

@[simp] theorem clearReject_params (s : State) : (clearReject s).params = s.params := rfl
@[simp] theorem clearReject_err (s : State) :
    (clearReject s).err = { s.err with cmdErr := false, errCause := 0 } := rfl
@[simp] theorem clearReject_regs (s : State) : (clearReject s).regs = s.regs := rfl
@[simp] theorem clearReject_fifo (s : State) : (clearReject s).fifo = s.fifo := rfl
@[simp] theorem clearReject_line (s : State) : (clearReject s).line = s.line := rfl
@[simp] theorem clearReject_xport (s : State) : (clearReject s).xport = s.xport := rfl
@[simp] theorem clearReject_engine (s : State) : (clearReject s).engine = s.engine := rfl
@[simp] theorem clearReject_poll (s : State) : (clearReject s).poll = s.poll := rfl
@[simp] theorem clearReject_srq (s : State) : (clearReject s).srq = s.srq := rfl
@[simp] theorem clearReject_moisture (s : State) : (clearReject s).moisture = s.moisture := rfl
@[simp] theorem clearReject_temperature (s : State) : (clearReject s).temperature = s.temperature := rfl
@[simp] theorem clearReject_now (s : State) : (clearReject s).now = s.now := rfl
@[simp] theorem clearReject_rdata (s : State) : (clearReject s).rdata = s.rdata := rfl
@[simp] theorem clearReject_host (s : State) : (clearReject s).host = s.host := rfl
@[simp] theorem clearReject_rxd (s : State) : (clearReject s).rxd = s.rxd := rfl
@[simp] theorem clearReject_draws (s : State) : (clearReject s).draws = s.draws := rfl

/-! `activate` -/

@[simp] theorem activate_params (s : State) : (activate s).params = s.params := rfl
@[simp] theorem activate_err (s : State) :
    (activate s).err = { s.err with actResult := !s.line.owner } := rfl
@[simp] theorem activate_regs (s : State) : (activate s).regs = s.regs := rfl
@[simp] theorem activate_fifo (s : State) : (activate s).fifo = s.fifo := rfl
@[simp] theorem activate_line (s : State) :
    (activate s).line = { s.line with owner := true } := rfl
@[simp] theorem activate_xport (s : State) : (activate s).xport = s.xport := rfl
@[simp] theorem activate_engine (s : State) : (activate s).engine = s.engine := rfl
@[simp] theorem activate_poll (s : State) : (activate s).poll = s.poll := rfl
@[simp] theorem activate_srq (s : State) : (activate s).srq = s.srq := rfl
@[simp] theorem activate_moisture (s : State) : (activate s).moisture = s.moisture := rfl
@[simp] theorem activate_temperature (s : State) : (activate s).temperature = s.temperature := rfl
@[simp] theorem activate_now (s : State) : (activate s).now = s.now := rfl
@[simp] theorem activate_rdata (s : State) : (activate s).rdata = s.rdata := rfl
@[simp] theorem activate_host (s : State) : (activate s).host = s.host := rfl
@[simp] theorem activate_rxd (s : State) : (activate s).rxd = s.rxd := rfl
@[simp] theorem activate_draws (s : State) : (activate s).draws = s.draws := rfl

/-! `endEffect` -/

@[simp] theorem endEffect_params (s : State) : (endEffect s).params = s.params := rfl
@[simp] theorem endEffect_err (s : State) : (endEffect s).err = s.err := rfl
@[simp] theorem endEffect_regs (s : State) : (endEffect s).regs = s.regs := rfl
@[simp] theorem endEffect_fifo (s : State) : (endEffect s).fifo = s.fifo := rfl
@[simp] theorem endEffect_line (s : State) :
    (endEffect s).line = { setModeLine .disabled s.line with owner := false } := rfl
@[simp] theorem endEffect_xport (s : State) : (endEffect s).xport = s.xport := rfl
@[simp] theorem endEffect_engine (s : State) : (endEffect s).engine = s.engine := rfl
@[simp] theorem endEffect_poll (s : State) : (endEffect s).poll = s.poll := rfl
@[simp] theorem endEffect_srq (s : State) : (endEffect s).srq = s.srq := rfl
@[simp] theorem endEffect_moisture (s : State) : (endEffect s).moisture = s.moisture := rfl
@[simp] theorem endEffect_temperature (s : State) : (endEffect s).temperature = s.temperature := rfl
@[simp] theorem endEffect_now (s : State) : (endEffect s).now = s.now := rfl
@[simp] theorem endEffect_rdata (s : State) : (endEffect s).rdata = s.rdata := rfl
@[simp] theorem endEffect_host (s : State) : (endEffect s).host = s.host := rfl
@[simp] theorem endEffect_rxd (s : State) : (endEffect s).rxd = s.rxd := rfl
@[simp] theorem endEffect_draws (s : State) : (endEffect s).draws = s.draws := rfl

/-! `flushQ` -/

@[simp] theorem flushQ_params (s : State) : (flushQ s).params = s.params := rfl
@[simp] theorem flushQ_err (s : State) : (flushQ s).err = s.err := rfl
@[simp] theorem flushQ_regs (s : State) : (flushQ s).regs = s.regs := rfl
@[simp] theorem flushQ_fifo (s : State) :
    (flushQ s).fifo = fifoFlush := rfl
@[simp] theorem flushQ_line (s : State) : (flushQ s).line = s.line := rfl
@[simp] theorem flushQ_xport (s : State) : (flushQ s).xport = s.xport := rfl
@[simp] theorem flushQ_engine (s : State) : (flushQ s).engine = s.engine := rfl
@[simp] theorem flushQ_poll (s : State) : (flushQ s).poll = s.poll := rfl
@[simp] theorem flushQ_srq (s : State) : (flushQ s).srq = s.srq := rfl
@[simp] theorem flushQ_moisture (s : State) : (flushQ s).moisture = s.moisture := rfl
@[simp] theorem flushQ_temperature (s : State) : (flushQ s).temperature = s.temperature := rfl
@[simp] theorem flushQ_now (s : State) : (flushQ s).now = s.now := rfl
@[simp] theorem flushQ_rdata (s : State) : (flushQ s).rdata = s.rdata := rfl
@[simp] theorem flushQ_host (s : State) : (flushQ s).host = s.host := rfl
@[simp] theorem flushQ_rxd (s : State) : (flushQ s).rxd = s.rxd := rfl
@[simp] theorem flushQ_draws (s : State) : (flushQ s).draws = s.draws := rfl

/-! `wakeEffect` -/

@[simp] theorem wakeEffect_params (s : State) : (wakeEffect s).params = s.params := rfl
@[simp] theorem wakeEffect_err (s : State) : (wakeEffect s).err = s.err := rfl
@[simp] theorem wakeEffect_regs (s : State) : (wakeEffect s).regs = s.regs := rfl
@[simp] theorem wakeEffect_fifo (s : State) : (wakeEffect s).fifo = s.fifo := rfl
@[simp] theorem wakeEffect_line (s : State) : (wakeEffect s).line = s.line := rfl
@[simp] theorem wakeEffect_engine (s : State) : (wakeEffect s).engine = s.engine := rfl
@[simp] theorem wakeEffect_poll (s : State) : (wakeEffect s).poll = s.poll := rfl
@[simp] theorem wakeEffect_srq (s : State) : (wakeEffect s).srq = s.srq := rfl
@[simp] theorem wakeEffect_moisture (s : State) : (wakeEffect s).moisture = s.moisture := rfl
@[simp] theorem wakeEffect_temperature (s : State) : (wakeEffect s).temperature = s.temperature := rfl
@[simp] theorem wakeEffect_now (s : State) : (wakeEffect s).now = s.now := rfl
@[simp] theorem wakeEffect_rdata (s : State) : (wakeEffect s).rdata = s.rdata := rfl
@[simp] theorem wakeEffect_host (s : State) : (wakeEffect s).host = s.host := rfl
@[simp] theorem wakeEffect_rxd (s : State) : (wakeEffect s).rxd = s.rxd := rfl
@[simp] theorem wakeEffect_draws (s : State) : (wakeEffect s).draws = s.draws := rfl

/-! `sendcmdEffect` -/

@[simp] theorem sendcmdEffect_params (s : State) : (sendcmdEffect s).params = s.params := rfl
@[simp] theorem sendcmdEffect_err (s : State) : (sendcmdEffect s).err = s.err := rfl
@[simp] theorem sendcmdEffect_regs (s : State) : (sendcmdEffect s).regs = s.regs := rfl
@[simp] theorem sendcmdEffect_fifo (s : State) : (sendcmdEffect s).fifo = s.fifo := rfl
@[simp] theorem sendcmdEffect_line (s : State) : (sendcmdEffect s).line = s.line := rfl
@[simp] theorem sendcmdEffect_engine (s : State) : (sendcmdEffect s).engine = s.engine := rfl
@[simp] theorem sendcmdEffect_poll (s : State) : (sendcmdEffect s).poll = s.poll := rfl
@[simp] theorem sendcmdEffect_srq (s : State) : (sendcmdEffect s).srq = s.srq := rfl
@[simp] theorem sendcmdEffect_moisture (s : State) : (sendcmdEffect s).moisture = s.moisture := rfl
@[simp] theorem sendcmdEffect_temperature (s : State) : (sendcmdEffect s).temperature = s.temperature := rfl
@[simp] theorem sendcmdEffect_now (s : State) : (sendcmdEffect s).now = s.now := rfl
@[simp] theorem sendcmdEffect_rdata (s : State) : (sendcmdEffect s).rdata = s.rdata := rfl
@[simp] theorem sendcmdEffect_host (s : State) : (sendcmdEffect s).host = s.host := rfl
@[simp] theorem sendcmdEffect_rxd (s : State) : (sendcmdEffect s).rxd = s.rxd := rfl
@[simp] theorem sendcmdEffect_draws (s : State) : (sendcmdEffect s).draws = s.draws := rfl

/-! `listenEffect` -/

@[simp] theorem listenEffect_params (e : Bool) (s : State) : (listenEffect e s).params = s.params := rfl
@[simp] theorem listenEffect_err (e : Bool) (s : State) : (listenEffect e s).err = s.err := rfl
@[simp] theorem listenEffect_regs (e : Bool) (s : State) : (listenEffect e s).regs = s.regs := rfl
@[simp] theorem listenEffect_fifo (e : Bool) (s : State) : (listenEffect e s).fifo = s.fifo := rfl
@[simp] theorem listenEffect_line (e : Bool) (s : State) : (listenEffect e s).line = s.line := rfl
@[simp] theorem listenEffect_engine (e : Bool) (s : State) : (listenEffect e s).engine = s.engine := rfl
@[simp] theorem listenEffect_poll (e : Bool) (s : State) : (listenEffect e s).poll = s.poll := rfl
@[simp] theorem listenEffect_srq (e : Bool) (s : State) : (listenEffect e s).srq = s.srq := rfl
@[simp] theorem listenEffect_moisture (e : Bool) (s : State) : (listenEffect e s).moisture = s.moisture := rfl
@[simp] theorem listenEffect_temperature (e : Bool) (s : State) : (listenEffect e s).temperature = s.temperature := rfl
@[simp] theorem listenEffect_now (e : Bool) (s : State) : (listenEffect e s).now = s.now := rfl
@[simp] theorem listenEffect_rdata (e : Bool) (s : State) : (listenEffect e s).rdata = s.rdata := rfl
@[simp] theorem listenEffect_host (e : Bool) (s : State) : (listenEffect e s).host = s.host := rfl
@[simp] theorem listenEffect_rxd (e : Bool) (s : State) : (listenEffect e s).rxd = s.rxd := rfl
@[simp] theorem listenEffect_draws (e : Bool) (s : State) : (listenEffect e s).draws = s.draws := rfl

/-! `pollEffect` -/

@[simp] theorem pollEffect_params (k : BitVec 2) (a : Byte) (s : State) : (pollEffect k a s).params = s.params := rfl
@[simp] theorem pollEffect_err (k : BitVec 2) (a : Byte) (s : State) : (pollEffect k a s).err = s.err := rfl
@[simp] theorem pollEffect_regs (k : BitVec 2) (a : Byte) (s : State) : (pollEffect k a s).regs = s.regs := rfl
@[simp] theorem pollEffect_fifo (k : BitVec 2) (a : Byte) (s : State) : (pollEffect k a s).fifo = s.fifo := rfl
@[simp] theorem pollEffect_line (k : BitVec 2) (a : Byte) (s : State) : (pollEffect k a s).line = s.line := rfl
@[simp] theorem pollEffect_xport (k : BitVec 2) (a : Byte) (s : State) :
    (pollEffect k a s).xport = { s.xport with breakEn := s.regs.breakEn } := rfl
@[simp] theorem pollEffect_poll (k : BitVec 2) (a : Byte) (s : State) :
    (pollEffect k a s).poll = { pollClear with kind := k } := rfl
@[simp] theorem pollEffect_srq (k : BitVec 2) (a : Byte) (s : State) :
    (pollEffect k a s).srq = srqClear := rfl
@[simp] theorem pollEffect_moisture (k : BitVec 2) (a : Byte) (s : State) : (pollEffect k a s).moisture = s.moisture := rfl
@[simp] theorem pollEffect_temperature (k : BitVec 2) (a : Byte) (s : State) : (pollEffect k a s).temperature = s.temperature := rfl
@[simp] theorem pollEffect_now (k : BitVec 2) (a : Byte) (s : State) : (pollEffect k a s).now = s.now := rfl
@[simp] theorem pollEffect_rdata (k : BitVec 2) (a : Byte) (s : State) : (pollEffect k a s).rdata = s.rdata := rfl
@[simp] theorem pollEffect_host (k : BitVec 2) (a : Byte) (s : State) : (pollEffect k a s).host = s.host := rfl
@[simp] theorem pollEffect_rxd (k : BitVec 2) (a : Byte) (s : State) : (pollEffect k a s).rxd = s.rxd := rfl
@[simp] theorem pollEffect_draws (k : BitVec 2) (a : Byte) (s : State) : (pollEffect k a s).draws = s.draws := rfl

/-! `setXseq` -/

@[simp] theorem setXseq_params (q : XSeq) (s : State) : (setXseq q s).params = s.params := rfl
@[simp] theorem setXseq_err (q : XSeq) (s : State) : (setXseq q s).err = s.err := rfl
@[simp] theorem setXseq_regs (q : XSeq) (s : State) : (setXseq q s).regs = s.regs := rfl
@[simp] theorem setXseq_fifo (q : XSeq) (s : State) : (setXseq q s).fifo = s.fifo := rfl
@[simp] theorem setXseq_line (q : XSeq) (s : State) : (setXseq q s).line = s.line := rfl
@[simp] theorem setXseq_xport (q : XSeq) (s : State) :
    (setXseq q s).xport = { s.xport with seq := q } := rfl
@[simp] theorem setXseq_engine (q : XSeq) (s : State) : (setXseq q s).engine = s.engine := rfl
@[simp] theorem setXseq_poll (q : XSeq) (s : State) : (setXseq q s).poll = s.poll := rfl
@[simp] theorem setXseq_srq (q : XSeq) (s : State) : (setXseq q s).srq = s.srq := rfl
@[simp] theorem setXseq_moisture (q : XSeq) (s : State) : (setXseq q s).moisture = s.moisture := rfl
@[simp] theorem setXseq_temperature (q : XSeq) (s : State) : (setXseq q s).temperature = s.temperature := rfl
@[simp] theorem setXseq_now (q : XSeq) (s : State) : (setXseq q s).now = s.now := rfl
@[simp] theorem setXseq_rdata (q : XSeq) (s : State) : (setXseq q s).rdata = s.rdata := rfl
@[simp] theorem setXseq_host (q : XSeq) (s : State) : (setXseq q s).host = s.host := rfl
@[simp] theorem setXseq_rxd (q : XSeq) (s : State) : (setXseq q s).rxd = s.rxd := rfl
@[simp] theorem setXseq_draws (q : XSeq) (s : State) : (setXseq q s).draws = s.draws := rfl

/-! `endListen` -/

@[simp] theorem endListen_params (s : State) : (endListen s).params = s.params := by unfold endListen; split <;> rfl
@[simp] theorem endListen_err (s : State) : (endListen s).err = s.err := by unfold endListen; split <;> rfl
@[simp] theorem endListen_regs (s : State) : (endListen s).regs = s.regs := by unfold endListen; split <;> rfl
@[simp] theorem endListen_line (s : State) : (endListen s).line = s.line := by unfold endListen; split <;> rfl
@[simp] theorem endListen_xport (s : State) :
    (endListen s).xport = { s.xport with seq := .idle } := by unfold endListen; split <;> rfl
@[simp] theorem endListen_engine (s : State) : (endListen s).engine = s.engine := by unfold endListen; split <;> rfl
@[simp] theorem endListen_poll (s : State) : (endListen s).poll = s.poll := by unfold endListen; split <;> rfl
@[simp] theorem endListen_srq (s : State) : (endListen s).srq = s.srq := by unfold endListen; split <;> rfl
@[simp] theorem endListen_moisture (s : State) : (endListen s).moisture = s.moisture := by unfold endListen; split <;> rfl
@[simp] theorem endListen_temperature (s : State) : (endListen s).temperature = s.temperature := by unfold endListen; split <;> rfl
@[simp] theorem endListen_now (s : State) : (endListen s).now = s.now := by unfold endListen; split <;> rfl
@[simp] theorem endListen_rdata (s : State) : (endListen s).rdata = s.rdata := by unfold endListen; split <;> rfl
@[simp] theorem endListen_host (s : State) : (endListen s).host = s.host := by unfold endListen; split <;> rfl
@[simp] theorem endListen_rxd (s : State) : (endListen s).rxd = s.rxd := by unfold endListen; split <;> rfl
@[simp] theorem endListen_draws (s : State) : (endListen s).draws = s.draws := by unfold endListen; split <;> rfl

/-! `setPseq` -/

@[simp] theorem setPseq_params (q : PSeq) (s : State) : (setPseq q s).params = s.params := rfl
@[simp] theorem setPseq_err (q : PSeq) (s : State) : (setPseq q s).err = s.err := rfl
@[simp] theorem setPseq_regs (q : PSeq) (s : State) : (setPseq q s).regs = s.regs := rfl
@[simp] theorem setPseq_fifo (q : PSeq) (s : State) : (setPseq q s).fifo = s.fifo := rfl
@[simp] theorem setPseq_line (q : PSeq) (s : State) : (setPseq q s).line = s.line := rfl
@[simp] theorem setPseq_xport (q : PSeq) (s : State) : (setPseq q s).xport = s.xport := rfl
@[simp] theorem setPseq_engine (q : PSeq) (s : State) :
    (setPseq q s).engine = { s.engine with seq := q } := rfl
@[simp] theorem setPseq_poll (q : PSeq) (s : State) : (setPseq q s).poll = s.poll := rfl
@[simp] theorem setPseq_srq (q : PSeq) (s : State) : (setPseq q s).srq = s.srq := rfl
@[simp] theorem setPseq_moisture (q : PSeq) (s : State) : (setPseq q s).moisture = s.moisture := rfl
@[simp] theorem setPseq_temperature (q : PSeq) (s : State) : (setPseq q s).temperature = s.temperature := rfl
@[simp] theorem setPseq_now (q : PSeq) (s : State) : (setPseq q s).now = s.now := rfl
@[simp] theorem setPseq_rdata (q : PSeq) (s : State) : (setPseq q s).rdata = s.rdata := rfl
@[simp] theorem setPseq_host (q : PSeq) (s : State) : (setPseq q s).host = s.host := rfl
@[simp] theorem setPseq_rxd (q : PSeq) (s : State) : (setPseq q s).rxd = s.rxd := rfl
@[simp] theorem setPseq_draws (q : PSeq) (s : State) : (setPseq q s).draws = s.draws := rfl

/-! `finishWith` -/

@[simp] theorem finishWith_params (k : BitVec 4) (s : State) : (finishWith k s).params = s.params := rfl
@[simp] theorem finishWith_err (k : BitVec 4) (s : State) : (finishWith k s).err = s.err := rfl
@[simp] theorem finishWith_regs (k : BitVec 4) (s : State) : (finishWith k s).regs = s.regs := rfl
@[simp] theorem finishWith_fifo (k : BitVec 4) (s : State) : (finishWith k s).fifo = s.fifo := rfl
@[simp] theorem finishWith_line (k : BitVec 4) (s : State) : (finishWith k s).line = s.line := rfl
@[simp] theorem finishWith_xport (k : BitVec 4) (s : State) : (finishWith k s).xport = s.xport := rfl
@[simp] theorem finishWith_engine (k : BitVec 4) (s : State) :
    (finishWith k s).engine = { s.engine with result := k, seq := .finish } := rfl
@[simp] theorem finishWith_poll (k : BitVec 4) (s : State) : (finishWith k s).poll = s.poll := rfl
@[simp] theorem finishWith_srq (k : BitVec 4) (s : State) : (finishWith k s).srq = s.srq := rfl
@[simp] theorem finishWith_moisture (k : BitVec 4) (s : State) : (finishWith k s).moisture = s.moisture := rfl
@[simp] theorem finishWith_temperature (k : BitVec 4) (s : State) : (finishWith k s).temperature = s.temperature := rfl
@[simp] theorem finishWith_now (k : BitVec 4) (s : State) : (finishWith k s).now = s.now := rfl
@[simp] theorem finishWith_rdata (k : BitVec 4) (s : State) : (finishWith k s).rdata = s.rdata := rfl
@[simp] theorem finishWith_host (k : BitVec 4) (s : State) : (finishWith k s).host = s.host := rfl
@[simp] theorem finishWith_rxd (k : BitVec 4) (s : State) : (finishWith k s).rxd = s.rxd := rfl
@[simp] theorem finishWith_draws (k : BitVec 4) (s : State) : (finishWith k s).draws = s.draws := rfl

/-! `setPhase` -/

@[simp] theorem setPhase_params (k : BitVec 3) (s : State) : (setPhase k s).params = s.params := rfl
@[simp] theorem setPhase_err (k : BitVec 3) (s : State) : (setPhase k s).err = s.err := rfl
@[simp] theorem setPhase_regs (k : BitVec 3) (s : State) : (setPhase k s).regs = s.regs := rfl
@[simp] theorem setPhase_fifo (k : BitVec 3) (s : State) : (setPhase k s).fifo = s.fifo := rfl
@[simp] theorem setPhase_line (k : BitVec 3) (s : State) : (setPhase k s).line = s.line := rfl
@[simp] theorem setPhase_xport (k : BitVec 3) (s : State) : (setPhase k s).xport = s.xport := rfl
@[simp] theorem setPhase_engine (k : BitVec 3) (s : State) : (setPhase k s).engine = s.engine := rfl
@[simp] theorem setPhase_poll (k : BitVec 3) (s : State) :
    (setPhase k s).poll = { s.poll with phase := k } := rfl
@[simp] theorem setPhase_srq (k : BitVec 3) (s : State) : (setPhase k s).srq = s.srq := rfl
@[simp] theorem setPhase_moisture (k : BitVec 3) (s : State) : (setPhase k s).moisture = s.moisture := rfl
@[simp] theorem setPhase_temperature (k : BitVec 3) (s : State) : (setPhase k s).temperature = s.temperature := rfl
@[simp] theorem setPhase_now (k : BitVec 3) (s : State) : (setPhase k s).now = s.now := rfl
@[simp] theorem setPhase_rdata (k : BitVec 3) (s : State) : (setPhase k s).rdata = s.rdata := rfl
@[simp] theorem setPhase_host (k : BitVec 3) (s : State) : (setPhase k s).host = s.host := rfl
@[simp] theorem setPhase_rxd (k : BitVec 3) (s : State) : (setPhase k s).rxd = s.rxd := rfl
@[simp] theorem setPhase_draws (k : BitVec 3) (s : State) : (setPhase k s).draws = s.draws := rfl

/-! `startSend` -/

@[simp] theorem startSend_params (p : List Byte) (s : State) : (startSend p s).params = s.params := rfl
@[simp] theorem startSend_err (p : List Byte) (s : State) : (startSend p s).err = s.err := rfl
@[simp] theorem startSend_regs (p : List Byte) (s : State) : (startSend p s).regs = s.regs := rfl
@[simp] theorem startSend_fifo (p : List Byte) (s : State) : (startSend p s).fifo = s.fifo := rfl
@[simp] theorem startSend_line (p : List Byte) (s : State) : (startSend p s).line = s.line := rfl
@[simp] theorem startSend_engine (p : List Byte) (s : State) : (startSend p s).engine = s.engine := rfl
@[simp] theorem startSend_poll (p : List Byte) (s : State) : (startSend p s).poll = s.poll := rfl
@[simp] theorem startSend_srq (p : List Byte) (s : State) : (startSend p s).srq = s.srq := rfl
@[simp] theorem startSend_moisture (p : List Byte) (s : State) : (startSend p s).moisture = s.moisture := rfl
@[simp] theorem startSend_temperature (p : List Byte) (s : State) : (startSend p s).temperature = s.temperature := rfl
@[simp] theorem startSend_now (p : List Byte) (s : State) : (startSend p s).now = s.now := rfl
@[simp] theorem startSend_rdata (p : List Byte) (s : State) : (startSend p s).rdata = s.rdata := rfl
@[simp] theorem startSend_host (p : List Byte) (s : State) : (startSend p s).host = s.host := rfl
@[simp] theorem startSend_rxd (p : List Byte) (s : State) : (startSend p s).rxd = s.rxd := rfl
@[simp] theorem startSend_draws (p : List Byte) (s : State) : (startSend p s).draws = s.draws := rfl

/-! `startListen` -/

@[simp] theorem startListen_params (n : Nat) (s : State) : (startListen n s).params = s.params := rfl
@[simp] theorem startListen_err (n : Nat) (s : State) : (startListen n s).err = s.err := rfl
@[simp] theorem startListen_regs (n : Nat) (s : State) : (startListen n s).regs = s.regs := rfl
@[simp] theorem startListen_fifo (n : Nat) (s : State) : (startListen n s).fifo = s.fifo := rfl
@[simp] theorem startListen_line (n : Nat) (s : State) : (startListen n s).line = s.line := rfl
@[simp] theorem startListen_engine (n : Nat) (s : State) : (startListen n s).engine = s.engine := rfl
@[simp] theorem startListen_poll (n : Nat) (s : State) : (startListen n s).poll = s.poll := rfl
@[simp] theorem startListen_srq (n : Nat) (s : State) : (startListen n s).srq = s.srq := rfl
@[simp] theorem startListen_moisture (n : Nat) (s : State) : (startListen n s).moisture = s.moisture := rfl
@[simp] theorem startListen_temperature (n : Nat) (s : State) : (startListen n s).temperature = s.temperature := rfl
@[simp] theorem startListen_now (n : Nat) (s : State) : (startListen n s).now = s.now := rfl
@[simp] theorem startListen_rdata (n : Nat) (s : State) : (startListen n s).rdata = s.rdata := rfl
@[simp] theorem startListen_host (n : Nat) (s : State) : (startListen n s).host = s.host := rfl
@[simp] theorem startListen_rxd (n : Nat) (s : State) : (startListen n s).rxd = s.rxd := rfl
@[simp] theorem startListen_draws (n : Nat) (s : State) : (startListen n s).draws = s.draws := rfl

/-! `collect` -/

@[simp] theorem collect_params (s : State) : (collect s).params = s.params := rfl
@[simp] theorem collect_err (s : State) : (collect s).err = s.err := rfl
@[simp] theorem collect_regs (s : State) : (collect s).regs = s.regs := rfl
@[simp] theorem collect_fifo (s : State) :
    (collect s).fifo = fifoFlush := rfl
@[simp] theorem collect_line (s : State) : (collect s).line = s.line := rfl
@[simp] theorem collect_xport (s : State) : (collect s).xport = s.xport := rfl
@[simp] theorem collect_engine (s : State) :
    (collect s).engine = { s.engine with resp := s.fifo.q } := rfl
@[simp] theorem collect_poll (s : State) :
    (collect s).poll = { s.poll with ovfSeen := s.poll.ovfSeen || s.fifo.ovf } := rfl
@[simp] theorem collect_srq (s : State) : (collect s).srq = s.srq := rfl
@[simp] theorem collect_moisture (s : State) : (collect s).moisture = s.moisture := rfl
@[simp] theorem collect_temperature (s : State) : (collect s).temperature = s.temperature := rfl
@[simp] theorem collect_now (s : State) : (collect s).now = s.now := rfl
@[simp] theorem collect_rdata (s : State) : (collect s).rdata = s.rdata := rfl
@[simp] theorem collect_host (s : State) : (collect s).host = s.host := rfl
@[simp] theorem collect_rxd (s : State) : (collect s).rxd = s.rxd := rfl
@[simp] theorem collect_draws (s : State) : (collect s).draws = s.draws := rfl

/-! `consumeInputs` -/

@[simp] theorem consumeInputs_params (s0 s : State) : (consumeInputs s0 s).params = s.params := rfl
@[simp] theorem consumeInputs_err (s0 s : State) : (consumeInputs s0 s).err = s.err := rfl
@[simp] theorem consumeInputs_regs (s0 s : State) : (consumeInputs s0 s).regs = s.regs := rfl
@[simp] theorem consumeInputs_fifo (s0 s : State) : (consumeInputs s0 s).fifo = s.fifo := rfl
@[simp] theorem consumeInputs_line (s0 s : State) : (consumeInputs s0 s).line = s.line := rfl
@[simp] theorem consumeInputs_xport (s0 s : State) : (consumeInputs s0 s).xport = s.xport := rfl
@[simp] theorem consumeInputs_engine (s0 s : State) : (consumeInputs s0 s).engine = s.engine := rfl
@[simp] theorem consumeInputs_poll (s0 s : State) : (consumeInputs s0 s).poll = s.poll := rfl
@[simp] theorem consumeInputs_srq (s0 s : State) : (consumeInputs s0 s).srq = s.srq := rfl
@[simp] theorem consumeInputs_moisture (s0 s : State) : (consumeInputs s0 s).moisture = s.moisture := rfl
@[simp] theorem consumeInputs_temperature (s0 s : State) : (consumeInputs s0 s).temperature = s.temperature := rfl
@[simp] theorem consumeInputs_now (s0 s : State) : (consumeInputs s0 s).now = s.now := rfl
@[simp] theorem consumeInputs_rdata (s0 s : State) : (consumeInputs s0 s).rdata = s.rdata := rfl
@[simp] theorem consumeInputs_host (s0 s : State) :
    (consumeInputs s0 s).host = s0.host.tail := rfl
@[simp] theorem consumeInputs_rxd (s0 s : State) :
    (consumeInputs s0 s).rxd = s0.rxd.tail := rfl
@[simp] theorem consumeInputs_draws (s0 s : State) :
    (consumeInputs s0 s).draws = s0.draws + 1 := rfl

/-! `placeAccess` -/

@[simp] theorem placeAccess_params (a : BusAccess) (s : State) : (placeAccess a s).params = s.params := rfl
@[simp] theorem placeAccess_err (a : BusAccess) (s : State) : (placeAccess a s).err = s.err := rfl
@[simp] theorem placeAccess_regs (a : BusAccess) (s : State) : (placeAccess a s).regs = s.regs := rfl
@[simp] theorem placeAccess_fifo (a : BusAccess) (s : State) : (placeAccess a s).fifo = s.fifo := rfl
@[simp] theorem placeAccess_line (a : BusAccess) (s : State) : (placeAccess a s).line = s.line := rfl
@[simp] theorem placeAccess_xport (a : BusAccess) (s : State) : (placeAccess a s).xport = s.xport := rfl
@[simp] theorem placeAccess_engine (a : BusAccess) (s : State) : (placeAccess a s).engine = s.engine := rfl
@[simp] theorem placeAccess_poll (a : BusAccess) (s : State) : (placeAccess a s).poll = s.poll := rfl
@[simp] theorem placeAccess_srq (a : BusAccess) (s : State) : (placeAccess a s).srq = s.srq := rfl
@[simp] theorem placeAccess_moisture (a : BusAccess) (s : State) : (placeAccess a s).moisture = s.moisture := rfl
@[simp] theorem placeAccess_temperature (a : BusAccess) (s : State) : (placeAccess a s).temperature = s.temperature := rfl
@[simp] theorem placeAccess_now (a : BusAccess) (s : State) : (placeAccess a s).now = s.now := rfl
@[simp] theorem placeAccess_rdata (a : BusAccess) (s : State) : (placeAccess a s).rdata = s.rdata := rfl
@[simp] theorem placeAccess_host (a : BusAccess) (s : State) :
    (placeAccess a s).host = ⟨true, some a⟩ :: s.host.tail := rfl
@[simp] theorem placeAccess_rxd (a : BusAccess) (s : State) : (placeAccess a s).rxd = s.rxd := rfl
@[simp] theorem placeAccess_draws (a : BusAccess) (s : State) : (placeAccess a s).draws = s.draws := rfl

end Sys2Proof.Machine
end

