-- ==== Sys2Proof/Laws/Ops.lean ====
section
/-! SUPPORT. What each shared operation can do, said once: the command frame, the Receive Buffer, the line, the UART, the two
sequencers and the host access. Later proofs cite these and do not unfold the operations. -/

namespace Sys2Proof.Machine

/-! ### The command frame -/

theorem command_busy (u : Bool) (f : State → State) (s : State) (h : busy s = true) :
    command u f s = reject causeBusy s := by
  simp [command, h]

theorem command_badTxlen (f : State → State) (s : State) (h : busy s = false) (hl : 16 < s.regs.txlen.toNat) :
    command true f s = reject causeBadTxlen s := by
  simp [command, h, txLen, hl]

theorem command_accepted (u : Bool) (f : State → State) (s : State) (h : busy s = false)
    (hu : u = true → s.regs.txlen.toNat ≤ 16) : command u f s = f s := by
  cases u
  · simp [command, h]
  · simp [command, h, txLen, Nat.not_lt.mpr (hu rfl)]

/-- A command is rejected as BUSY, rejected for its TXLEN, or has its effect. -/
theorem command_cases (u : Bool) (f : State → State) (s : State) :
    (busy s = true ∧ command u f s = reject causeBusy s) ∨
    (busy s = false ∧ u = true ∧ 16 < s.regs.txlen.toNat ∧ command u f s = reject causeBadTxlen s) ∨
    (busy s = false ∧ (u = true → s.regs.txlen.toNat ≤ 16) ∧ command u f s = f s) := by
  rcases hb : busy s with _ | _
  · by_cases hu : u = true ∧ 16 < s.regs.txlen.toNat
    · obtain ⟨rfl, hl⟩ := hu
      exact .inr (.inl ⟨rfl, rfl, hl, command_badTxlen f s hb hl⟩)
    · have hle : u = true → s.regs.txlen.toNat ≤ 16 := fun h => by
        by_contra hn
        exact hu ⟨h, by omega⟩
      exact .inr (.inr ⟨rfl, hle, command_accepted u f s hb hle⟩)
  · exact .inl ⟨rfl, command_busy u f s hb⟩

/-! ### The Receive Buffer -/

theorem fifoAppend_room (x : Byte) (f : Fifo) (h : f.q.length < 64) :
    fifoAppend x f = { q := f.q ++ [x], ovf := f.ovf } := by
  simp [fifoAppend, h]

theorem fifoAppend_full (x : Byte) (f : Fifo) (h : 64 ≤ f.q.length) :
    fifoAppend x f = { q := f.q, ovf := true } := by
  simp [fifoAppend, Nat.not_lt.mpr h]

theorem fifoAppend_length_le (x : Byte) (f : Fifo) (h : f.q.length ≤ 64) : (fifoAppend x f).q.length ≤ 64 := by
  unfold fifoAppend
  split
  · simp; omega
  · exact h

theorem mem_fifoAppend {x y : Byte} {f : Fifo} (h : y ∈ (fifoAppend x f).q) : y ∈ f.q ∨ y = x := by
  unfold fifoAppend at h
  split at h
  · simpa using h
  · exact .inl h

theorem stripEcho_sublist (p s : List Byte) : (stripEcho p s).Sublist s := by
  unfold stripEcho
  split
  · exact List.drop_sublist _ _
  · split
    · have h2 : (s.drop (p.length + 1)).Sublist (s.drop 1) := by
        rw [Nat.add_comm, ← List.drop_drop]
        exact List.drop_sublist _ _
      have h := (List.Sublist.refl (s.take 1)).append h2
      rwa [List.take_append_drop] at h
    · exact List.Sublist.refl _

@[simp] theorem fifoStrip_q (p : List Byte) (f : Fifo) : (fifoStrip p f).q = stripEcho p f.q := rfl

@[simp] theorem fifoStrip_ovf (p : List Byte) (f : Fifo) : (fifoStrip p f).ovf = f.ovf := rfl

/-! ### The line -/

@[simp] theorem setModeLine_mode (m : BusMode) (l : Line) : (setModeLine m l).mode = m := by
  cases m <;> rfl

@[simp] theorem setModeLine_owner (m : BusMode) (l : Line) : (setModeLine m l).owner = l.owner := by
  cases m <;> simp only [setModeLine, openLine, closeLine] <;> split <;> rfl

/-- SET_MODE to an open mode opens a closed line and leaves an open one as it is. -/
theorem setModeLine_open (m : BusMode) (l : Line) (h : m ≠ .disabled) :
    setModeLine m l = { l with mode := m, rx := if l.mode = .disabled then .waitHigh else l.rx } := by
  cases m <;> simp only [setModeLine, openLine] at * <;> first | exact absurd rfl h | (split <;> simp_all)

theorem setModeLine_close (l : Line) (h : l.mode ≠ .disabled) :
    setModeLine .disabled l =
      { l with mode := .disabled, rxq := [], rxqOvr := false, rx := .off, tx := .idle, rate := .normal } := by
  simp [setModeLine, closeLine, h]

theorem setModeLine_closed (l : Line) (h : l.mode = .disabled) : setModeLine .disabled l = l := by
  cases l
  simp only at h
  subst h
  rfl

/-- RXQ_DEPTH is 1 to 255, so a queue within it shows its length in STATUS.RXQ_LEN (R6, R25). -/
theorem rxqDepth_range (p : Params) : 1 ≤ rxqDepth p ∧ rxqDepth p ≤ 255 := by
  unfold rxqDepth
  omega

/-- A delivered character is queued, or dropped with the overrun mark. -/
theorem deliver_cases (p : Params) (len : Nat) (x : Byte) (l : Line) :
    (len < rxqDepth p ∧ deliver p len x l = { l with rxq := l.rxq ++ [x] }) ∨
    (rxqDepth p ≤ len ∧ deliver p len x l = { l with rxqOvr := true }) := by
  unfold deliver
  split
  · exact .inl ⟨‹_›, rfl⟩
  · exact .inr ⟨by omega, rfl⟩

theorem byteOf_bit7 (c : Char7) : (byteOf c).getLsbD 7 = false := by
  simp [byteOf]

/-! ### The UART -/

@[simp] theorem txNext_idle (p : Params) : txNext p .idle = .idle := rfl

theorem rxNext_off (p : Params) (rate : Rate) (level : Bool) : rxNext p rate level .off = ⟨.off, none⟩ := rfl

/-- A receiver that is on stays on. -/
theorem rxNext_ne_off (p : Params) (rate : Rate) (level : Bool) (x : RxState) (h : x ≠ .off) :
    (rxNext p rate level x).rx ≠ .off := by
  cases x with
  | off => exact absurd rfl h
  | waitHigh => cases level <;> simp [rxNext]
  | hunt => cases level <;> simp [rxNext]
  | frame r i cyc d =>
    simp only [rxNext, rxSample]
    repeat' split
    all_goals simp

/-- The transmitter's step writes the transmitter alone. -/
theorem uartTx_cases (s0 s : State) :
    (s.line.tx = s0.line.tx ∧ uartTx s0 s = { s with line := { s.line with tx := txNext s.params s0.line.tx } }) ∨
    (s.line.tx ≠ s0.line.tx ∧ uartTx s0 s = s) := by
  unfold uartTx
  split
  · exact .inl ⟨‹_›, rfl⟩
  · exact .inr ⟨‹_›, rfl⟩

/-- The receiver's step writes the receiver, and delivers at most one character. -/
theorem uartRx_cases (level : Bool) (s0 s : State) :
    (s.line.rx ≠ s0.line.rx ∧ uartRx level s0 s = s) ∨
    (s.line.rx = s0.line.rx ∧
      uartRx level s0 s =
        { s with line := { s.line with rx := (rxNext s.params s0.line.rate level s0.line.rx).rx } }) ∨
    (∃ c, s.line.rx = s0.line.rx ∧
      (rxNext s.params s0.line.rate level s0.line.rx).delivered = some c ∧
      uartRx level s0 s =
        { s with
          line :=
            deliver s.params s0.line.rxq.length (byteOf c)
              { s.line with rx := (rxNext s.params s0.line.rate level s0.line.rx).rx } }) := by
  unfold uartRx
  split
  · split
    · exact .inr (.inl ⟨‹_›, rfl⟩)
    · exact .inr (.inr ⟨_, ‹_›, ‹_›, rfl⟩)
  · exact .inl ⟨‹_›, rfl⟩

/-- The UART writes the transmitter, the receiver and the input queue, and nothing else. -/
theorem uart_frame (level : Bool) (s0 s : State) :
    ∃ tx rx rxq ovr,
      uartRx level s0 (uartTx s0 s) =
        { s with line := { s.line with tx := tx, rx := rx, rxq := rxq, rxqOvr := ovr } } := by
  have h1 : ∃ tx, uartTx s0 s = { s with line := { s.line with tx := tx } } := by
    rcases uartTx_cases s0 s with ⟨-, h⟩ | ⟨-, h⟩
    · exact ⟨_, h⟩
    · exact ⟨s.line.tx, h⟩
  obtain ⟨tx, h1⟩ := h1
  rw [h1]
  rcases uartRx_cases level s0 { s with line := { s.line with tx := tx } } with ⟨-, h⟩ | ⟨-, h⟩ | ⟨c, -, -, h⟩
  · exact ⟨tx, s.line.rx, s.line.rxq, s.line.rxqOvr, h⟩
  · exact ⟨tx, _, s.line.rxq, s.line.rxqOvr, h⟩
  · rw [h]
    rcases deliver_cases s.params s0.line.rxq.length (byteOf c)
        { s.line with tx := tx, rx := (rxNext s.params s0.line.rate level s0.line.rx).rx } with ⟨-, hd⟩ | ⟨-, hd⟩
    · exact ⟨tx, _, _, s.line.rxqOvr, by rw [hd]⟩
    · exact ⟨tx, _, s.line.rxq, true, by rw [hd]⟩

/-! ### The pins -/

/-- While `rst_n = 0` the pins are 1, 0, 0 (R370). -/
theorem pins_reset {s : State} (h : (hostNow s).rstN = false) :
    txd s = true ∧ txEn s = false ∧ rs485Mode s = false := by
  simp [txd, txEn, rs485Mode, h]

/-- While `rst_n = 1` the pins show the transmitter, the mode and CONFIG.RS485 (R224 to R226). -/
theorem pins_running {s : State} (h : (hostNow s).rstN = true) :
    txd s = txLevel s.line.tx ∧ txEn s = (s.line.mode == .holding || s.line.mode == .transmitting) ∧
    rs485Mode s = s.regs.rs485 := by
  simp [txd, txEn, rs485Mode, h]

/-! ### The sequencers -/

/-- The transport never lengthens the serial input queue. -/
theorem transportStep_rxq_length (s : State) : (transportStep s).line.rxq.length ≤ s.line.rxq.length := by
  cases h : s.xport.seq <;> simp only [transportStep, h]
  · exact Nat.le_refl _
  · unfold stepWake nextAfterWake; dsimp only; split <;> simp [setModeLine_open, txStart, setXseq]
  · unfold stepBreak nextAfterWake; dsimp only; repeat' split
    all_goals exact Nat.le_refl _
  · unfold stepMark nextAfterWake; split <;> exact Nat.le_refl _
  · unfold stepWrite; repeat' split
    · exact Nat.le_refl _
    · exact Nat.zero_le _
    · exact Nat.le_refl _
  · simp [stepLstart, setModeLine_open]
  · unfold stepListen endListen
    repeat' split
    · rename_i hq
      simp [hq]
    all_goals exact Nat.le_refl _

/-- The transport writes the line, the buffer and its own latches, and nothing else. -/
theorem transportStep_frame (s : State) :
    { transportStep s with line := s.line, fifo := s.fifo, xport := s.xport } = s := by
  cases h : s.xport.seq <;> simp only [transportStep, h]
  · unfold stepWake nextAfterWake; dsimp only; split <;> rfl
  · unfold stepBreak nextAfterWake; dsimp only; repeat' split
    all_goals rfl
  · unfold stepMark nextAfterWake; split <;> rfl
  · unfold stepWrite; repeat' split
    all_goals rfl
  · rfl
  · unfold stepListen endListen; repeat' split
    all_goals rfl

/-- The transport keeps `owner`. -/
theorem transportStep_owner (s : State) : (transportStep s).line.owner = s.line.owner := by
  cases h : s.xport.seq <;> simp only [transportStep, h]
  · unfold stepWake nextAfterWake; dsimp only; split <;> simp [txStart]
  · unfold stepBreak nextAfterWake; dsimp only; repeat' split
    all_goals rfl
  · unfold stepMark nextAfterWake; split <;> rfl
  · unfold stepWrite; repeat' split
    all_goals rfl
  · simp [stepLstart]
  · unfold stepListen endListen; repeat' split
    all_goals rfl

/-- The engine writes the buffer, the transport's latches, its own state, POLL_STATUS, SRQ and the banks, and nothing
else. -/
theorem engineStep_frame (x : Bool) (s : State) :
    { engineStep x s with
      fifo := s.fifo, xport := s.xport, engine := s.engine, poll := s.poll, srq := s.srq,
      moisture := s.moisture, temperature := s.temperature } = s := by
  cases h : s.engine.seq <;> simp only [engineStep, h]
  · unfold stepStart; dsimp only; split <;> rfl
  · unfold stepIssueSend; split <;> rfl
  · split
    · unfold stepIssueCheck; dsimp only; split <;> rfl
    · rfl
  · unfold stepReadyListen; split <;> rfl
  · split
    · unfold stepReadyCheck; dsimp only; split <;> rfl
    · rfl
  · unfold stepDataSend nextBlock failBlock setBlkTries; repeat' split
    all_goals rfl
  · split
    · unfold stepDataCheck nextBlock storeFields; dsimp only; repeat' split
      all_goals rfl
    · rfl
  · unfold stepConvert setBank; repeat' split
    all_goals rfl
  · rfl

/-- The engine writes a bank only in P_CONVERT, and only the bank of the POLL's kind (R262). -/
theorem engineStep_banks (x : Bool) (s : State) :
    ((engineStep x s).moisture = s.moisture ∨ (s.engine.seq = .convert ∧ s.engine.kind = 0)) ∧
    ((engineStep x s).temperature = s.temperature ∨ (s.engine.seq = .convert ∧ s.engine.kind = 1)) := by
  cases h : s.engine.seq <;> simp only [engineStep, h]
  · exact ⟨.inl trivial, .inl trivial⟩
  · unfold stepStart; dsimp only; split <;> exact ⟨.inl rfl, .inl rfl⟩
  · unfold stepIssueSend; split <;> exact ⟨.inl rfl, .inl rfl⟩
  · split
    · unfold stepIssueCheck; dsimp only; split <;> exact ⟨.inl rfl, .inl rfl⟩
    · exact ⟨.inl rfl, .inl rfl⟩
  · unfold stepReadyListen; split <;> exact ⟨.inl rfl, .inl rfl⟩
  · split
    · unfold stepReadyCheck; dsimp only; split <;> exact ⟨.inl rfl, .inl rfl⟩
    · exact ⟨.inl rfl, .inl rfl⟩
  · unfold stepDataSend nextBlock failBlock setBlkTries; repeat' split
    all_goals exact ⟨.inl rfl, .inl rfl⟩
  · split
    · unfold stepDataCheck nextBlock storeFields; dsimp only; repeat' split
      all_goals exact ⟨.inl rfl, .inl rfl⟩
    · exact ⟨.inl rfl, .inl rfl⟩
  · unfold stepConvert setBank
    repeat' split
    all_goals simp_all
  · exact ⟨.inl rfl, .inl rfl⟩

/-! What the transport and the engine leave, field by field. -/

@[simp] theorem transportStep_params (s : State) : (transportStep s).params = s.params := by
  have h := congrArg (fun u : State => u.params) (transportStep_frame s)
  exact h

@[simp] theorem transportStep_err (s : State) : (transportStep s).err = s.err := by
  have h := congrArg (fun u : State => u.err) (transportStep_frame s)
  exact h

@[simp] theorem transportStep_regs (s : State) : (transportStep s).regs = s.regs := by
  have h := congrArg (fun u : State => u.regs) (transportStep_frame s)
  exact h

@[simp] theorem transportStep_engine (s : State) : (transportStep s).engine = s.engine := by
  have h := congrArg (fun u : State => u.engine) (transportStep_frame s)
  exact h

@[simp] theorem transportStep_poll (s : State) : (transportStep s).poll = s.poll := by
  have h := congrArg (fun u : State => u.poll) (transportStep_frame s)
  exact h

@[simp] theorem transportStep_srq (s : State) : (transportStep s).srq = s.srq := by
  have h := congrArg (fun u : State => u.srq) (transportStep_frame s)
  exact h

@[simp] theorem transportStep_moisture (s : State) : (transportStep s).moisture = s.moisture := by
  have h := congrArg (fun u : State => u.moisture) (transportStep_frame s)
  exact h

@[simp] theorem transportStep_temperature (s : State) : (transportStep s).temperature = s.temperature := by
  have h := congrArg (fun u : State => u.temperature) (transportStep_frame s)
  exact h

@[simp] theorem engineStep_params (x : Bool) (s : State) : (engineStep x s).params = s.params := by
  have h := congrArg (fun u : State => u.params) (engineStep_frame x s)
  exact h

@[simp] theorem engineStep_err (x : Bool) (s : State) : (engineStep x s).err = s.err := by
  have h := congrArg (fun u : State => u.err) (engineStep_frame x s)
  exact h

@[simp] theorem engineStep_regs (x : Bool) (s : State) : (engineStep x s).regs = s.regs := by
  have h := congrArg (fun u : State => u.regs) (engineStep_frame x s)
  exact h

@[simp] theorem engineStep_line (x : Bool) (s : State) : (engineStep x s).line = s.line := by
  have h := congrArg (fun u : State => u.line) (engineStep_frame x s)
  exact h

/-! ### The host access -/

theorem idle_of_not_busy {s : State} (h : busy s = false) : s.xport.seq = .idle ∧ s.engine.seq = .idle := by
  simpa [busy, pbusy] using h

/-- A command is rejected with a cause from 1 to 4, or has its effect. -/
theorem command_outcome (u : Bool) (f : State → State) (s : State) :
    (∃ k : BitVec 3, (1 ≤ k.toNat ∧ k.toNat ≤ 4) ∧ command u f s = reject k s) ∨
    (busy s = false ∧ (u = true → s.regs.txlen.toNat ≤ 16) ∧ command u f s = f s) := by
  rcases command_cases u f s with ⟨-, h⟩ | ⟨-, -, -, h⟩ | ⟨hb, hu, h⟩
  · exact .inl ⟨_, by decide, h⟩
  · exact .inl ⟨_, by decide, h⟩
  · exact .inr ⟨hb, hu, h⟩

/-- What a single-cycle command can do, with the access that asks for it. -/
inductive SingleCycleEffect (a : BusAccess) (s : State) : State → Prop where
  | setmode (m : BusMode) (h : decode a = .ok (.setmode m)) : SingleCycleEffect a s (setMode m s)
  | busBegin (h : decode a = .ok .busBegin) : SingleCycleEffect a s (activate (setMode .holding s))
  | busEnd (h : decode a = .ok .busEnd) : SingleCycleEffect a s (endEffect s)
  | setactive (h : decode a = .ok .setactive) : SingleCycleEffect a s (setactiveEffect s)
  | flush : SingleCycleEffect a s (flushQ s)

/-- What the acceptance of a sequenced command can do. -/
inductive AcceptanceEffect (s : State) : State → Prop where
  | wake : AcceptanceEffect s (wakeEffect s)
  | sendcmd (h : s.regs.txlen.toNat ≤ 16) : AcceptanceEffect s (sendcmdEffect s)
  | listen (e : Bool) (h : e = true → s.regs.txlen.toNat ≤ 16) : AcceptanceEffect s (listenEffect e s)
  | poll (k : BitVec 2) (x : Byte) : AcceptanceEffect s (pollEffect k x s)

/-- Everything a host access can do: a rejection; a command's effect, when not BUSY; a read, which writes the read data; RXDATA's
read of the buffer, when not BUSY; CLRERR; a write of the RW registers; nothing. -/
theorem hostAccess_cases {a : BusAccess} {s t : State} (h : hostAccess a s = .next t) :
    (∃ k : BitVec 3, (1 ≤ k.toNat ∧ k.toNat ≤ 4) ∧ t = reject k s) ∨
    (busy s = false ∧ SingleCycleEffect a s t) ∨
    (busy s = false ∧ AcceptanceEffect s t) ∨
    (∃ r, t = { s with rdata := r }) ∨
    (busy s = false ∧ ∃ r, t = { s with rdata := r, fifo := fifoRead s.fifo }) ∨
    t = clearReject s ∨ (∃ r, t = { s with regs := r }) ∨ t = s := by
  unfold hostAccess at h
  split at h
  · rename_i i hi
    cases i <;> cases h
    · rcases command_outcome false (setMode _) s with h | ⟨hb, -, h⟩
      · exact .inl h
      · exact .inr (.inl ⟨hb, h ▸ .setmode _ hi⟩)
    · rcases command_outcome false (fun t => activate (setMode .holding t)) s with h | ⟨hb, -, h⟩
      · exact .inl h
      · exact .inr (.inl ⟨hb, h ▸ .busBegin hi⟩)
    · rcases command_outcome false endEffect s with h | ⟨hb, -, h⟩
      · exact .inl h
      · exact .inr (.inl ⟨hb, h ▸ .busEnd hi⟩)
    · rcases command_outcome false setactiveEffect s with h | ⟨hb, -, h⟩
      · exact .inl h
      · exact .inr (.inl ⟨hb, h ▸ .setactive hi⟩)
    · rcases command_outcome false wakeEffect s with h | ⟨hb, -, h⟩
      · exact .inl h
      · exact .inr (.inr (.inl ⟨hb, h ▸ .wake⟩))
    · rcases command_outcome true sendcmdEffect s with h | ⟨hb, hu, h⟩
      · exact .inl h
      · exact .inr (.inr (.inl ⟨hb, h ▸ .sendcmd (hu rfl)⟩))
    · rename_i e
      rcases command_outcome e (listenEffect e) s with h | ⟨hb, hu, h⟩
      · exact .inl h
      · exact .inr (.inr (.inl ⟨hb, h ▸ .listen _ hu⟩))
    · rcases command_outcome false flushQ s with h | ⟨hb, -, h⟩
      · exact .inl h
      · exact .inr (.inl ⟨hb, h ▸ .flush⟩)
    · rcases command_outcome false (pollEffect _ _) s with h | ⟨hb, -, h⟩
      · exact .inl h
      · exact .inr (.inr (.inl ⟨hb, h ▸ .poll _ _⟩))
    · rcases hb : busy s with _ | _
      · exact .inr (.inr (.inr (.inr (.inl ⟨rfl, rxdataWord s, by simp⟩))))
      · exact .inr (.inr (.inr (.inl ⟨rxdataWord s, by simp⟩)))
    · exact .inr (.inr (.inr (.inl ⟨_, rfl⟩)))
    · exact .inr (.inr (.inr (.inl ⟨_, rfl⟩)))
    · split
      · exact .inr (.inr (.inr (.inr (.inr (.inl rfl)))))
      · exact .inr (.inr (.inr (.inr (.inr (.inr (.inr rfl))))))
  · cases h
    unfold rejectWord
    split <;> exact .inl ⟨_, by decide, rfl⟩
  · cases h
    unfold rejectWord
    split <;> exact .inl ⟨_, by decide, rfl⟩
  · cases h
    cases a with
    | read a => exact .inr (.inr (.inr (.inl ⟨_, rfl⟩)))
    | write a v => exact .inr (.inr (.inr (.inr (.inr (.inr (.inl ⟨_, rfl⟩))))))

/-! ### The step -/

/-- Everything a step can do: reset; the clock edge alone; or a host access and the clock edge. -/
theorem step_cases {s t : State} (h : step s = .next t) :
    ((hostNow s).rstN = false ∧ t = resetCycle s) ∨
    ((hostNow s).rstN = true ∧ (hostNow s).access = none ∧ t = clockEdge s s) ∨
    (∃ a u, (hostNow s).rstN = true ∧ (hostNow s).access = some a ∧ hostAccess a s = .next u ∧
      t = clockEdge s u) := by
  unfold step cycle at h
  split at h
  · cases h
    exact .inl ⟨‹_›, rfl⟩
  · rename_i hr
    rw [Bool.not_eq_false] at hr
    unfold hostPhase at h
    rcases ha : (hostNow s).access with _ | a
    · simp only [ha] at h
      cases h
      exact .inr (.inl ⟨hr, rfl, rfl⟩)
    · simp only [ha] at h
      cases hu : hostAccess a s with
      | next u =>
        simp only [hu] at h
        cases h
        exact .inr (.inr ⟨a, u, hr, rfl, hu, rfl⟩)
      | fault r => cases r
      | refused r => simp [hu] at h

end Sys2Proof.Machine
end

