-- ==== Sys2Proof/Laws/PerInstr.lean ====
section
/-! SUPPORT. A law about every instruction as syntax, one lemma per constructor: the access that presents it matches its row of
spec/opcode_table.json (match and mask of the command word, R102, or of the offset). -/

namespace Sys2Proof.Laws.RowMatch

/-- The access of the instruction matches the row of its mnemonic. -/
def Statement (i : Instr) : Prop :=
  match encode i with
  | .write a w =>
    (a = 0x000 ∧ ∃ row ∈ opTable, row.mnemonic = i.mnemonic ∧ w &&& row.mask = row.pattern) ∨
    (a &&& 0xFFC = 0x004 ∧ i.mnemonic = "CLRERR")
  | .read a =>
    (a &&& 0xFFC = 0x030 ∧ i.mnemonic = "RXDATA") ∨ (a &&& 0xFFC = 0x034 ∧ i.mnemonic = "RXPEEK") ∨
    (a &&& 0xFFC = 0x038 ∧ i.mnemonic = "RXAVAIL")

theorem setmode (mode : BusMode) : Statement (.setmode mode) := by
  cases mode <;> exact .inl ⟨rfl, ⟨"SETMODE", 0x1, 0x00000001, 0xFFFFFFCF⟩, by decide, rfl, by decide⟩

theorem busBegin : Statement .busBegin :=
  .inl ⟨rfl, ⟨"BEGIN", 0x2, 0x00000002, 0xFFFFFFFF⟩, by decide, rfl, by decide⟩

theorem busEnd : Statement .busEnd :=
  .inl ⟨rfl, ⟨"END", 0x3, 0x00000003, 0xFFFFFFFF⟩, by decide, rfl, by decide⟩

theorem setactive : Statement .setactive :=
  .inl ⟨rfl, ⟨"SETACTIVE", 0x4, 0x00000004, 0xFFFFFFFF⟩, by decide, rfl, by decide⟩

theorem wake : Statement .wake :=
  .inl ⟨rfl, ⟨"WAKE", 0x5, 0x00000005, 0xFFFFFFFF⟩, by decide, rfl, by decide⟩

theorem sendcmd : Statement .sendcmd :=
  .inl ⟨rfl, ⟨"SENDCMD", 0x6, 0x00000006, 0xFFFFFFFF⟩, by decide, rfl, by decide⟩

theorem listen (echo : Bool) : Statement (.listen echo) := by
  cases echo <;> exact .inl ⟨rfl, ⟨"LISTEN", 0x7, 0x00000007, 0xFFFFFFBF⟩, by decide, rfl, by decide⟩

theorem flush : Statement .flush :=
  .inl ⟨rfl, ⟨"FLUSH", 0x8, 0x00000008, 0xFFFFFFFF⟩, by decide, rfl, by decide⟩

theorem pollWord_masked (kind : BitVec 2) (addr : Byte) :
    pollWord kind addr &&& 0xFF00FCFF = 0x00000009 := by
  ext i hi
  simp only [pollWord, BitVec.getElem_and, BitVec.getElem_append]
  interval_cases i <;> simp

theorem poll (kind : BitVec 2) (addr : Byte) : Statement (.poll kind addr) :=
  .inl ⟨rfl, ⟨"POLL", 0x9, 0x00000009, 0xFF00FCFF⟩, by decide, rfl, pollWord_masked kind addr⟩

theorem rxdata : Statement .rxdata := .inl ⟨by decide, rfl⟩

theorem rxpeek : Statement .rxpeek := .inr (.inl ⟨by decide, rfl⟩)

theorem rxavail : Statement .rxavail := .inr (.inr ⟨by decide, rfl⟩)

theorem clrerr (value : Word) : Statement (.clrerr value) := .inr ⟨by decide, rfl⟩

end Sys2Proof.Laws.RowMatch
end

