-- ==== Sys2Proof/Tests/Slice0.lean ====
section
/-! SUPPORT. Small tests of the model, their expected results written out in 95_test_vectors.md (the vector is named in each
comment), and one witness for the hypotheses of each statement. -/

namespace Sys2Proof.Tests

open Sys2Proof Sys2Proof.Machine

/-! ### Small states -/

/-- The state a result answers. -/
def nextOf (r : Result) : State :=
  match r with
  | .next t => t
  | .fault _ => State.reset
  | .refused _ => State.reset

/-- The state after one host access. -/
def after (a : BusAccess) (s : State) : State := nextOf (hostAccess a s)

/-- The state after one write to CMD. -/
def cmd (w : Word) (s : State) : State := after (.write 0x000 w) s

/-- Reset with `Q`, `ovf` as given. -/
def withQ (q : List Byte) (ovf : Bool) : State := { State.reset with fifo := ⟨q, ovf⟩ }

/-- Reset with TXLEN as given. -/
def withTxlen (n : BitVec 5) : State := { State.reset with regs := { State.reset.regs with txlen := n } }

/-- Reset with the line in a mode and a serial input queue. -/
def withLine (m : BusMode) (rxq : List Byte) : State :=
  { State.reset with line := { State.reset.line with mode := m, rx := .hunt, rxq := rxq } }

/-- A transport state in a mode, the transmitter idle. -/
def inXport (q : XSeq) (m : BusMode) : State :=
  { withLine m [] with xport := { State.reset.xport with seq := q } }

/-- An engine state in Holding, with a reply in `Q`. -/
def inEngine (q : PSeq) (reply : List Byte) : State :=
  { withLine .holding [] with
    fifo := ⟨reply, false⟩, engine := { State.reset.engine with seq := q, addr := 0x30, ia := 2, ba := 2 } }

/-- A LISTEN running. -/
def listening : State := inXport .listen .listening

/-- A receiver at its stop sample in a quiet machine, with a queue of `n` bytes. -/
def atStop (n : Nat) : State :=
  { withLine .holding (List.replicate n 0x41) with
    line := { (withLine .holding (List.replicate n 0x41)).line with rx := .frame .normal 9 4 0x4D }, rxd := [true] }

/-- `"00123\r\n"` (L1-4). -/
def srqReply : List Byte := [0x30, 0x30, 0x31, 0x32, 0x33, 0x0D, 0x0A]

/-- The data reply of P-DAT-1. -/
def dataReply : List Byte := bytes ['0', ' ', '+', '1', '2', '.', '3', '0', '0', '0', ' ', '+', '4', '5', '.', '6', '0', '0', '0',
  ' ', '+', '7', '.', '8', '0', '0', '0', '0'] ++ [0x0D, 0x0A]

/-- `"0M0!"`. -/
def echo : List Byte := [0x30, 0x4D, 0x30, 0x21]

/-- The field `"+12.3000"` (N-1). -/
def field1 : List Byte := bytes ['+', '1', '2', '.', '3', '0', '0', '0']

/-- The field `"-1234567"` (N-18). -/
def field18 : List Byte := bytes ['-', '1', '2', '3', '4', '5', '6', '7']

/-! ### WellFormed: an ill-formed word for each check, and the words it admits -/

theorem test_wf_refuses_opcode_0 : wordWellFormed 0x00000000 = false ∧ opcodeAssigned 0x00000000 = false := by decide

theorem test_wf_refuses_opcodes_above_9 :
    (∀ k : Fin 6, opcodeAssigned (BitVec.ofNat 32 (0xA + k.val)) = false) ∧ wordWellFormed 0xFFFFFFF0 = false := by decide

theorem test_wf_refuses_reserved_bits :
    reservedClear 0x00000041 = false ∧ reservedClear 0x000000F6 = false ∧ reservedClear 0x01300009 = false ∧
    reservedClear 0x00300409 = false ∧ wordWellFormed 0x10000002 = false := by decide

theorem test_wf_access : accessWellFormed (.write 0x003 0x00000016) = false ∧
    accessWellFormed (.write 0x004 0x00000016) = true ∧ accessWellFormed (.read 0x000) = true := by decide

/-! ### Decode: words written out from R100, R101, R120, R122 and 2.2 of the vectors -/

/-- E-2: OP 0x1, MODE 3 in bits 5:4. -/
theorem test_decode_setmode : decodeCmd 0b0000_0000_0000_0000_0000_0000_0011_0001#32 = .ok (.setmode .listening) := by decide

theorem test_decode_setmode_others : decodeCmd 0x01 = .ok (.setmode .disabled) ∧ decodeCmd 0x11 = .ok (.setmode .holding) ∧
    decodeCmd 0x21 = .ok (.setmode .transmitting) := by decide

theorem test_decode_begin : decodeCmd 0b0000_0000_0000_0000_0000_0000_0000_0010#32 = .ok .busBegin := by decide

theorem test_decode_end : decodeCmd 0b0000_0000_0000_0000_0000_0000_0000_0011#32 = .ok .busEnd := by decide

theorem test_decode_setactive : decodeCmd 0b0000_0000_0000_0000_0000_0000_0000_0100#32 = .ok .setactive := by decide

theorem test_decode_wake : decodeCmd 0b0000_0000_0000_0000_0000_0000_0000_0101#32 = .ok .wake := by decide

theorem test_decode_sendcmd : decodeCmd 0b0000_0000_0000_0000_0000_0000_0000_0110#32 = .ok .sendcmd := by decide

/-- E-14, E-15: ECHO is bit 6. -/
theorem test_decode_listen : decodeCmd 0b0000_0000_0000_0000_0000_0000_0100_0111#32 = .ok (.listen true) ∧
    decodeCmd 0x00000007 = .ok (.listen false) := by decide

theorem test_decode_flush : decodeCmd 0b0000_0000_0000_0000_0000_0000_0000_1000#32 = .ok .flush := by decide

/-- E-17, ENG-16, ENG-18: KIND in bits 9:8, ADDR in bits 23:16. -/
theorem test_decode_poll : decodeCmd 0b0000_0000_0011_0000_0000_0001_0000_1001#32 = .ok (.poll 1 0x30) ∧
    decodeCmd 0x00610009 = .ok (.poll 0 0x61) ∧ decodeCmd 0x00300209 = .ok (.poll 2 0x30) := by decide

/-- H-7: address bits 1:0 are ignored. -/
theorem test_decode_ports : decode (.read 0x030) = .ok .rxdata ∧ decode (.read 0x031) = .ok .rxdata ∧
    decode (.read 0x034) = .ok .rxpeek ∧ decode (.read 0x03B) = .ok .rxavail ∧
    decode (.write 0x004 0x80) = .ok (.clrerr 0x80) := by decide

/-- H-8: a write of RXDATA is a plain access; so is a read of CMD. -/
theorem test_decode_plain : decode (.write 0x030 0) = .error .plainRegister ∧
    decode (.read 0x000) = .error .plainRegister := by decide

/-- R122, encoder: POLL Temperature at '0', LISTEN ECHO, SETMODE Listening. -/
theorem test_encode : encode (.poll 1 0x30) = .write 0x000 0x00300109 ∧ encode (.listen true) = .write 0x000 0x00000047 ∧
    encode (.setmode .listening) = .write 0x000 0x00000031 := by decide

/-- Every row of spec/opcode_table.json, by its match value and its width in whole bytes. -/
theorem test_table_words :
    decodeTableWord 32 0x1 = some (.setmode .disabled) ∧ decodeTableWord 32 0x2 = some .busBegin ∧
    decodeTableWord 32 0x3 = some .busEnd ∧ decodeTableWord 32 0x4 = some .setactive ∧
    decodeTableWord 32 0x5 = some .wake ∧ decodeTableWord 32 0x6 = some .sendcmd ∧
    decodeTableWord 32 0x7 = some (.listen false) ∧ decodeTableWord 32 0x8 = some .flush ∧
    decodeTableWord 32 0x9 = some (.poll 0 0) ∧ decodeTableWord 16 0x030 = some .rxdata ∧
    decodeTableWord 16 0x034 = some .rxpeek ∧ decodeTableWord 16 0x038 = some .rxavail ∧
    decodeTableWord 16 0x004 = some (.clrerr 0) ∧ decodeTableWord 32 0xA = none ∧ decodeTableWord 16 0x008 = none := by
  decide

/-- A placed word runs in the very next step (BEGIN: T-2's mode and owner). -/
theorem test_placed_word_runs :
    (nextOf (step (State.reset.withFetchWord 32 0x2))).line.mode = .holding ∧
    (nextOf (step (State.reset.withFetchWord 32 0x2))).line.owner = true := by decide

/-! ### The single-cycle commands (2.2, 2.4) -/

/-- T-1, T-9. -/
theorem test_setmode : statusWord (cmd 0x31 State.reset) = 0x00000007 ∧
    statusWord (cmd 0x01 (cmd 0x02 State.reset)) = 0x00000808 := by decide

/-- T-2, T-3. -/
theorem test_begin : statusWord (cmd 0x02 State.reset) = 0x0000080D ∧
    statusWord (cmd 0x02 (cmd 0x02 State.reset)) = 0x0000000D := by decide

/-- T-7, T-14: END closes the line and keeps ACT_RESULT. -/
theorem test_end : statusWord (cmd 0x03 (cmd 0x02 State.reset)) = 0x00000800 ∧
    statusWord (cmd 0x03 (cmd 0x02 (withLine .listening [0x61, 0x62]))) = 0x00000800 := by decide

/-- T-5, T-6. -/
theorem test_setactive : statusWord (cmd 0x04 (cmd 0x31 State.reset)) = 0x0000080D ∧
    statusWord (cmd 0x04 (cmd 0x31 (cmd 0x02 State.reset))) = 0x0000000F := by decide

/-- F-12 and T-13: FLUSH clears `Q` and `ovf`, not `rxq`. -/
theorem test_flush : (cmd 0x08 (withQ [0x41] true)).fifo = ⟨[], false⟩ ∧
    (cmd 0x08 (withLine .holding [0x61, 0x62])).line.rxq = [0x61, 0x62] := by decide

/-! ### The sequenced commands -/

/-- R177: WAKE goes to X_WAKE with the break enable latched. -/
theorem test_wake : (cmd 0x05 State.reset).xport.seq = .wake ∧ (cmd 0x05 State.reset).xport.breakEn = true := by decide

/-- E-12, E-13. -/
theorem test_sendcmd : (cmd 0x06 (withTxlen 16)).xport.cmdlLen = 16 ∧ statusWord (cmd 0x06 (withTxlen 17)) = 0x00000480 := by
  decide

/-- S-12: bit 7 of each TXBUF byte is cleared in the echo pattern. E-14, E-15: TXLEN counts with ECHO only. -/
theorem test_listen_pattern :
    echoPattern (cmd 0x47 { withTxlen 4 with
      regs := { (withTxlen 4).regs with txbuf0 := 0xA1B0CDB0 } }).xport = echo := by decide

theorem test_listen_txlen : (cmd 0x07 (withTxlen 17)).xport.seq = .lstart ∧
    (cmd 0x47 (withTxlen 17)).err.errCause = 4 := by decide

/-- R251: POLL latches its operands and clears POLL_STATUS but for KIND. -/
theorem test_poll : (cmd 0x00610109 State.reset).engine.addr = 0x61 ∧
    pollStatusWord (cmd 0x00610109 State.reset).poll = 0x00002000 := by decide

/-- R178 and X-1: X_WAKE sets Transmitting and starts the break frame at 600 baud. -/
theorem test_wake_step : (transportStep (cmd 0x05 State.reset)).line.mode = .transmitting ∧
    (transportStep (cmd 0x05 State.reset)).line.tx = .frame .slow 0b1000000000 0 0 := by decide

/-- C8, ENG-18: the data command has a literal '0' whatever the address. -/
theorem test_commands : startCommand 0x61 0 = [0x61, 0x4D, 0x30, 0x21] ∧ startCommand 0x30 1 = [0x30, 0x4D, 0x31, 0x21] ∧
    dataCommand 1 = [0x30, 0x44, 0x31, 0x21] := by decide

/-- L1-4: the engine fills SRQ. -/
theorem test_srq_word : srqWord (engineStep true (inEngine .issueCheck srqReply)).srq = 0x800C0C30 := by decide

/-! ### The ports and CLRERR (2.7, E-25, E-26) -/

/-- H-1, H-3. -/
theorem test_rxdata : (after (.read 0x030) (withQ [0x30] false)).rdata = 0x30 ∧
    (after (.read 0x030) { listening with fifo := ⟨[0x30], false⟩ }).rdata = 0x100 := by decide

/-- H-2. -/
theorem test_rxdata_empty : (after (.read 0x030) State.reset).rdata = 0x100 := by decide

/-- H-4. -/
theorem test_rxpeek : (after (.read 0x034) { listening with fifo := ⟨[0x30], false⟩ }).rdata = 0x30 := by decide

/-- H-5, and the count. -/
theorem test_rxavail : (after (.read 0x038) { listening with fifo := ⟨[0x30], true⟩ }).rdata = 0xFFFFFFFF ∧
    (after (.read 0x038) (withQ [0x30, 0x31] false)).rdata = 2 := by decide

/-- E-25, E-26. -/
theorem test_clrerr : (after (.write 0x004 0x80) (reject 3 State.reset)).err = ⟨false, 0, false⟩ ∧
    (after (.write 0x004 0x7F) (reject 3 State.reset)).err = ⟨true, 3, false⟩ := by decide

/-! ### Rejection (2.2) -/

/-- E-3, E-4, E-16. -/
theorem test_reject : statusWord (cmd 0x41 State.reset) = 0x00000380 ∧ statusWord (cmd 0x00 State.reset) = 0x00000280 ∧
    (cmd 0x87 (withTxlen 31)).err.errCause = 3 := by decide

/-- E-9, E-10: BUSY is checked first. -/
theorem test_reject_busy : (cmd 0xF6 listening).err.errCause = 1 ∧ (cmd 0x0B listening).err.errCause = 1 := by decide

/-- E-23: an accepted command keeps the rejection. -/
theorem test_reject_kept : (cmd 0x02 (reject 2 State.reset)).err = ⟨true, 2, true⟩ := by decide

/-! ### The window (2.1) -/

/-- RST-1. -/
theorem test_reset_words : readWord State.reset 0x02 = 1 ∧ readWord State.reset 0x03 = 0x3E8 ∧
    readWord State.reset 0x04 = 0x22 ∧ readWord State.reset 0x05 = 0x64 ∧ readWord State.reset 0x0D = 0x100 := by decide

/-- RST-4, RST-5. -/
theorem test_reserved_bits : readWord (after (.write 0x008 0xFFFFFFFF) State.reset) 2 = 7 ∧
    readWord (after (.write 0x00C 0x12345678) State.reset) 3 = 0x5678 ∧
    readWord (after (.write 0x018 0xFF) State.reset) 6 = 0x1F := by decide

/-! ### The Receive Buffer and the strip (2.3, 2.5) -/

/-- F-5, F-7, F-10, F-15. -/
theorem test_buffer : fifoAppend 0x41 ⟨List.replicate 64 0x20, false⟩ = ⟨List.replicate 64 0x20, true⟩ ∧
    fifoAppend 0x41 ⟨[0x30], true⟩ = ⟨[0x30, 0x41], true⟩ ∧ fifoRead ⟨[0x30, 0x31], true⟩ = ⟨[0x31], false⟩ ∧
    fifoDrain ⟨[0x30], true⟩ = ⟨[], true⟩ := by decide

/-- S-1, S-2, S-3, S-5, S-6. -/
theorem test_strip : stripEcho echo (echo ++ srqReply) = srqReply ∧ stripEcho echo ([0] ++ echo ++ srqReply) = [0] ++ srqReply ∧
    stripEcho echo ([0x78, 0x79] ++ echo) = [0x78, 0x79] ++ echo ∧ stripEcho echo (echo ++ echo) = echo ∧
    stripEcho echo ([0x30] ++ echo) = [0x30] := by decide

/-! ### Parsing and conversion (2.9 to 2.13) -/

/-- P-SRQ-1, P-SRQ-5, P-SRQ-7. -/
theorem test_parse_srq : parseSrq srqReply = some (0x30, 12, 3) ∧
    parseSrq [0x30, 0x30, 0x31, 0x32, 0x30, 0x0D, 0x0A] = none ∧
    parseSrq [0x30, 0x30, 0x31, 0x32, 0x20, 0x33, 0x0D, 0x0A] = none := by decide

/-- P-DAT-1, P-DAT-4, P-DAT-7. -/
theorem test_parse_data : (parseData dataReply).map (fun f => f.1) = some field1 ∧
    parseData [0x30, 0x20, 0x2B, 0x31, 0x0D, 0x0A] = none ∧ parseData (dataReply.set 2 0) = none := by decide

/-- P-NTC-1, P-NTC-3; the address set's ends. -/
theorem test_notice_and_address : isNotice [0x30, 0x0D, 0x0A] 0x30 = true ∧ isNotice [0, 0x30, 0x0D, 0x0A] 0x30 = false ∧
    addrValid 0x7A = true ∧ addrValid 0x7B = false ∧ addrValid 0x23 = false := by decide

/-- N-1, N-10, N-11, and three fields that NUMERIC refuses. -/
theorem test_numeric : numeric field1 = some ⟨false, 123000, 4⟩ ∧ numeric [0x2D, 0x2E, 0x35] = some ⟨true, 5, 1⟩ ∧
    numeric [0x37, 0x2E] = some ⟨false, 7, 0⟩ ∧ numeric [0x2B, 0x2E] = none ∧ numeric [0x20, 0x31] = none ∧
    numeric [0x31, 0x2E, 0x32, 0x2E, 0x33] = none := by decide

/-- N-1, N-7. -/
theorem test_valdec : decWord ⟨false, 123000, 4⟩ = 0x2001E078 ∧ decWord ⟨true, 150000, 5⟩ = 0x680249F0 := by decide

/-- N-1, N-7, N-12, N-19. -/
theorem test_valf64 : f64Word ⟨false, 123000, 4⟩ = 0x402899999999999A ∧ f64Word ⟨true, 150000, 5⟩ = 0xBFF8000000000000 ∧
    f64Word ⟨true, 0, 0⟩ = 0x8000000000000000 ∧ f64Word ⟨false, 1, 7⟩ = 0x3E7AD7F29ABCAF48 := by decide

/-- N-1, N-8, N-20. -/
theorem test_format : formatValue ⟨false, 123000, 4⟩ = bytes ['1', '2', '.', '3'] ∧
    formatValue ⟨false, 0, 5⟩ = bytes ['0', '.', '0'] ∧
    formatValue ⟨false, 10, 6⟩ = bytes ['0', '.', '0', '0', '0', '0', '1'] := by decide

/-- RAW-6: the longest text, and its first and last words. -/
theorem test_raw : (formatRaw 0x61 (sixOf ⟨true, 1234567, 0⟩)).length = 67 ∧
    rawWord (readingBank 0x61 (sixOf zeroValue) (formatRaw 0x61 (sixOf ⟨true, 1234567, 0⟩))) 0 = 0x312D2B61 ∧
    rawWord (readingBank 0x61 (sixOf zeroValue) (formatRaw 0x61 (sixOf ⟨true, 1234567, 0⟩))) 16 = 0x00302E37 := by decide

/-! ### The line (2.8) -/

/-- U-1: 'M' is 0 1011001 0 1 and CR is 0 1011000 1 1 in time order. -/
theorem test_frame : frameBits 0x4D = 0b1010011010#10 ∧ frameBits 0x0D = 0b1100011010#10 := by decide

/-- U-4: a false start returns to RX_HUNT; U-6: a zero stop bit delivers and waits for a 1. -/
theorem test_receiver : rxNext State.reset.params .normal true (.frame .normal 0 1 0) = ⟨.hunt, none⟩ ∧
    rxNext State.reset.params .normal false (.frame .normal 9 4 0) = ⟨.waitHigh, some 0⟩ := by decide

/-- U-7: the 16th character is queued, the 17th is dropped and sets RXQ_OVR; U-3: the stop sample delivers. -/
theorem test_deliver : (clockEdge (atStop 15) (atStop 15)).line.rxq = List.replicate 15 0x41 ++ [0x4D] ∧
    (clockEdge (atStop 16) (atStop 16)).line.rxq = List.replicate 16 0x41 ∧
    (clockEdge (atStop 16) (atStop 16)).line.rxqOvr = true := by decide

/-- R80 and R230: a queue full at the start of the cycle drops the character, though the listen loop takes a byte in that cycle. -/
theorem test_deliver_full_at_start :
    (let s := { atStop 16 with
      line := { (atStop 16).line with mode := .listening }, xport := { State.reset.xport with seq := .listen } }
     (clockEdge s s).line.rxq = List.replicate 15 0x41 ∧ (clockEdge s s).line.rxqOvr = true ∧
     (clockEdge s s).fifo.q = [0x41]) := by decide

/-- RST-3, R370: a cycle of reset cuts a frame, `tx_en` and `rs485_mode`. -/
theorem test_pins_in_reset :
    (let s := { withLine .transmitting [] with
      line := { (withLine .transmitting []).line with tx := .frame .normal (frameBits 0x4D) 0 0 },
      regs := { State.reset.regs with rs485 := true } }
     txd s = false ∧ txEn s = true ∧ rs485Mode s = true ∧
     (let r := { s with host := [⟨false, none⟩] }
      txd r = true ∧ txEn r = false ∧ rs485Mode r = false)) := by decide

/-- U-11, RST-2. -/
theorem test_pins : txEn State.reset = false ∧ txEn (withLine .holding []) = true ∧ txEn (withLine .transmitting []) = true ∧
    txEn (withLine .listening []) = false ∧ txd State.reset = true := by decide

/-! ### Witnesses: a concrete input that meets the hypotheses of each statement, clause by clause -/

/-- WAKE running in Holding, the machine taken from reset by BEGIN and WAKE. -/
def waking : State := cmd 0x05 (cmd 0x02 State.reset)

/-- A machine that holds the reading RAW-4 and is about to convert a block of the fields N-1, N-18, N-18. -/
def converting : State :=
  { inEngine .convert [] with
    engine :=
      { (inEngine .convert []).engine with
        fields := ⟨field1, field18, field18, [], [], []⟩, blkOk0 := true, b := 2, count := 6 }
    moisture := readingBank 0x30 (sixOf zeroValue) (formatRaw 0x30 (sixOf zeroValue)) }

/-- A state with a frame of 'M' on the line in X_WRITE. -/
def writing : State :=
  { inXport .write .transmitting with
    line := { (inXport .write .transmitting).line with tx := .frame .normal (frameBits 0x4D) 3 2 } }

/-- Each row has words of its own, and a word that is not one. -/
theorem witness_CommandWordSelectsItsRow :
    ∀ row ∈ opTable, row.pattern &&& row.mask = row.pattern ∧ 0 &&& row.mask ≠ row.pattern := by decide

theorem witness_CommandChecksInOrder_busy : regIndex 0x000 = 0 ∧ regIndex 0x003 = 0 ∧ busy listening = true := by decide

theorem witness_CommandChecksInOrder_opcode :
    busy State.reset = false ∧ opOf 0x00000000 = 0 ∧ 0xA ≤ (opOf 0x0000000A).toNat ∧ 0xA ≤ (opOf 0xFFFFFFFF).toNat := by
  decide

theorem witness_CommandChecksInOrder_reserved :
    ∀ row ∈ opTable, busy State.reset = false ∧ opOf (row.pattern ||| 0x80000000) = row.op ∧
      (row.pattern ||| 0x80000000) &&& row.mask ≠ row.pattern := by decide

theorem witness_CommandChecksInOrder_txlen :
    busy (withTxlen 17) = false ∧ 16 < (withTxlen 17).regs.txlen.toNat ∧ usesTxbuf 0x00000006 ∧ usesTxbuf 0x00000047 ∧
    ⟨"SENDCMD", 0x6, 0x00000006, 0xFFFFFFFF⟩ ∈ opTable ∧ (0x00000006 : Word) &&& 0xFFFFFFFF = 0x00000006 ∧
    ⟨"LISTEN", 0x7, 0x00000007, 0xFFFFFFBF⟩ ∈ opTable ∧ (0x00000047 : Word) &&& 0xFFFFFFBF = 0x00000007 := by
  unfold usesTxbuf
  decide

/-- Every row is accepted at the boundary TXLEN = 16. -/
theorem witness_CommandChecksInOrder_accepted :
    ∀ row ∈ opTable, busy (withTxlen 16) = false ∧ row.pattern &&& row.mask = row.pattern ∧
      ¬ (usesTxbuf row.pattern ∧ 16 < (withTxlen 16).regs.txlen.toNat) := by
  unfold usesTxbuf
  decide

theorem witness_ClrerrClearsTheRejection :
    regIndex 0x004 = 1 ∧ regIndex 0x007 = 1 ∧ BitVec.getLsbD (0x00000080 : Word) 7 = true ∧
    BitVec.getLsbD (0xFFFFFF7F : Word) 7 = false := by decide

theorem witness_StepRunsTheDecodedInstruction :
    (State.reset.withFetchWord 32 0x2).host = ⟨true, some (.write 0x000 0x2)⟩ :: [] ∧
    decode (.write 0x000 0x2) = .ok .busBegin ∧
    exec .busBegin (State.reset.withFetchWord 32 0x2) = .next (nextOf (exec .busBegin (State.reset.withFetchWord 32 0x2))) ∧
    State.reset.xport.seq = .idle ∧ State.reset.engine.seq = .idle := ⟨rfl, by decide, rfl, rfl, rfl⟩

/-- A plain read of CONFIG, a rejected word, a quiet cycle listed and unlisted. -/
theorem witness_StepRunsTheDecodedInstruction_other :
    (let s := { State.reset with host := [⟨true, some (.read 0x008)⟩] }
     s.host = ⟨true, some (.read 0x008)⟩ :: [] ∧
      hostAccess (.read 0x008) s = .next (nextOf (hostAccess (.read 0x008) s))) ∧
    (let s := { State.reset with host := [⟨true, some (.write 0x000 0x41)⟩] }
     s.host = ⟨true, some (.write 0x000 0x41)⟩ :: [] ∧
      hostAccess (.write 0x000 0x41) s = .next (reject 3 s)) ∧
    { State.reset with host := [quietCycle] }.host = ⟨true, none⟩ :: [] ∧ State.reset.host = [] :=
  ⟨⟨rfl, rfl⟩, ⟨rfl, rfl⟩, rfl, rfl⟩

/-- Each sequencer idle and running at the start of a cycle. -/
theorem witness_StepRunsTheDecodedInstruction_running :
    State.reset.xport.seq = .idle ∧ listening.xport.seq ≠ .idle ∧ State.reset.engine.seq = .idle ∧
    ((inEngine .start []).engine.seq ≠ .idle ∧ (inEngine .start []).xport.seq = .idle) ∧
    (let s := { inEngine .issueCheck [] with xport := listening.xport }
     s.engine.seq ≠ .idle ∧ s.xport.seq ≠ .idle) := by decide

theorem witness_ResetAbandonsEverything :
    { listening with host := [⟨false, some (.write 0x000 0x8)⟩] }.host = ⟨false, some (.write 0x000 0x8)⟩ :: [] := rfl

theorem witness_SetmodeResult : busy State.reset = false ∧ State.reset.line.mode = .disabled ∧
    busy (withLine .holding []) = false ∧ (withLine .holding []).line.mode ≠ .disabled := by decide

/-- BEGIN, END, SETACTIVE, FLUSH, WAKE, POLL: not BUSY, closed and open, `owner` 0 and 1. -/
theorem witness_SingleCycleResults : busy State.reset = false ∧ State.reset.line.mode = .disabled ∧
    State.reset.line.owner = false ∧ busy (cmd 0x02 State.reset) = false ∧
    (cmd 0x02 State.reset).line.mode ≠ .disabled ∧ (cmd 0x02 State.reset).line.owner = true := by decide

/-- SENDCMD and LISTEN with ECHO: not BUSY, TXLEN at 0 and 16; without ECHO any TXLEN. -/
theorem witness_SendcmdAccepted_ListenAccepted :
    busy (withTxlen 16) = false ∧ (withTxlen 16).regs.txlen.toNat ≤ 16 ∧ (withTxlen 0).regs.txlen.toNat ≤ 16 ∧
    (15 < (withTxlen 16).regs.txlen.toNat ∧ (withTxlen 16).regs.txlen.toNat ≤ 16) ∧
    (false = true → (withTxlen 31).regs.txlen.toNat ≤ 16) := by decide

theorem witness_RxdataResult : regIndex 0x030 = 0x0C ∧ regIndex 0x033 = 0x0C ∧
    busy { listening with fifo := ⟨[0x30], true⟩ } = true ∧ busy State.reset = false ∧ State.reset.fifo.q = [] ∧
    (withQ [0x30, 0x31] true).fifo.q = 0x30 :: [0x31] := by decide

theorem witness_PeekAndAvailableResults : regIndex 0x034 = 0x0D ∧ regIndex 0x03B = 0x0E ∧ State.reset.fifo.q = [] ∧
    (withQ [0x30] true).fifo.q = 0x30 :: [] ∧ (withQ [0x30] true).fifo.ovf = true ∧ State.reset.fifo.ovf = false := by decide

theorem witness_HostCannotTouchARunningCommand :
    busy listening = true ∧ hostAccess (.read 0x030) listening = .next (after (.read 0x030) listening) := ⟨by decide, rfl⟩

/-- Two hosts: one is quiet, the other writes READY_POLL. -/
theorem witness_RunningCommandIgnoresTheHost :
    SameRun listening { listening with host := [⟨true, some (.write 0x014 5)⟩], regs := (withTxlen 9).regs } ∧
    busy listening = true ∧ (hostNow listening).rstN = true ∧
    step listening = .next (nextOf (step listening)) ∧
    (∃ t, step { listening with host := [⟨true, some (.write 0x014 5)⟩], regs := (withTxlen 9).regs } = .next t) :=
  ⟨⟨rfl, rfl, rfl, rfl, rfl, rfl, rfl, rfl, rfl, rfl, rfl, rfl⟩, by decide, by decide, rfl, ⟨_, rfl⟩⟩

theorem witness_RegisterWriteReadsBack : rwMask (regIndex 0x008) = some 0x7 ∧ rwMask (regIndex 0x00F) = some 0xFFFF ∧
    rwMask (regIndex 0x028) = some 0xFFFFFFFF ∧ 0x0A ≠ regIndex 0x008 ∧ rwMask 0x0A ≠ none := by decide

theorem witness_RegisterWriteReadsBack_fields : regIndex 0x008 = 2 ∧ regIndex 0x00F = 3 ∧ regIndex 0x010 = 4 ∧
    regIndex 0x014 = 5 ∧ regIndex 0x018 = 6 ∧ regIndex 0x01C = 7 ∧ regIndex 0x020 = 8 ∧ regIndex 0x024 = 9 ∧
    regIndex 0x02B = 0x0A := by decide

theorem witness_PlainAccessesHaveNoSideEffect : regIndex 0x02F ≠ 0x0C ∧ regIndex 0x034 ≠ 0x0C ∧
    1 < regIndex 0x02C ∧ rwMask (regIndex 0x02C) = none ∧ 1 < regIndex 0xFFF ∧ rwMask (regIndex 0xFFF) = none := by decide

/-- Both banks, and the last VALDEC, VALF64 and RAW words. -/
theorem witness_PlainAccessesHaveNoSideEffect_banks :
    (64 = regIndex 0x100 ∧ State.reset.moisture = State.reset.moisture) ∧
    (128 = regIndex 0x200 ∧ State.reset.temperature = State.reset.temperature) ∧ 5 < 6 ∧ 16 < 17 ∧ 3 < 4 := by decide

/-- CMD, the hole at 0x02C, the hole after RD_STATUS of bank 0, the first offset past RAW16 of bank 0, the last offset. -/
theorem witness_UnmappedOffsetsReadZero : regIndex 0x003 = 0 ∧ ¬ mappedIndex (regIndex 0x02C) ∧
    ¬ mappedIndex (regIndex 0x104) ∧ ¬ mappedIndex (regIndex 0x1A4) ∧ ¬ mappedIndex (regIndex 0xFFC) := by
  have hole : ∀ i, i ∈ [11, 65, 105, 1023] → ¬ mappedIndex i := by
    intro i hi h
    simp only [List.mem_cons, List.not_mem_nil, or_false] at hi
    simp only [mappedIndex, bankIndex] at h
    rcases h with h | h | h | h | h | h | ⟨o, h, h'⟩ | ⟨o, h, h'⟩ <;> omega
  exact ⟨by decide, hole _ (by decide), hole _ (by decide), hole _ (by decide), hole _ (by decide)⟩

theorem witness_StatusWordAndPins : State.reset.line.tx = .idle ∧ (withLine .transmitting []).line.mode = .transmitting ∧
    (hostNow State.reset).rstN = true ∧ (hostNow { State.reset with host := [⟨false, none⟩] }).rstN = false ∧
    writing.line.tx = .frame .normal (frameBits 0x4D) 3 2 ∧ (hostNow writing).rstN = true ∧
    { writing with line := { writing.line with tx := .mark 5 } }.line.tx = .mark 5 := by decide

theorem witness_StatusWordAndPins_bounds : BufferSafe (withLine .listening (List.replicate 16 0x41)) := by
  constructor <;> decide

theorem witness_ResultWordFields : (⟨true, 99999999, 7⟩ : Value).mant ≤ 99999999 ∧ (⟨true, 99999999, 7⟩ : Value).scale ≤ 7 := by
  decide

theorem witness_ReceiveBufferOperations : (List.replicate 64 (0x20 : Byte)).length = 64 ∧
    (List.replicate 63 (0x20 : Byte)).length < 64 ∧ (withQ [] true).fifo.q = [] ∧
    (withQ [0x30] true).fifo.q = 0x30 :: [] := by decide

theorem witness_OverflowKeepsTheFirst64 : (List.replicate 64 (0x20 : Byte)).length ≤ 64 := by decide

/-- S-1, S-2, S-3. -/
theorem witness_StripRemovesOneLeadingEcho : echo ≠ [] ∧ echo ++ srqReply = echo ++ srqReply ∧
    (¬ echo <+: 0x00 :: (echo ++ srqReply)) ∧ (¬ echo <+: srqReply) ∧
    ¬ ∃ x rest, srqReply = x :: (echo ++ rest) := by
  refine ⟨by decide, rfl, by decide, by decide, ?_⟩
  rintro ⟨x, rest, h⟩
  simp [srqReply, echo] at h

/-- Both sides of each of the three parses are met. -/
theorem witness_ParsesAndGrammar : (∃ v, parseSrq srqReply = some v) ∧ (∃ f, parseData dataReply = some f) ∧
    numeric field18 = some ⟨true, 1234567, 0⟩ ∧ field18.length ≤ 8 := by
  refine ⟨⟨(0x30, 12, 3), by decide⟩, ?_, by decide, by decide⟩
  exact ⟨(slice dataReply 2 10, slice dataReply 11 19, slice dataReply 20 28), by decide⟩

theorem witness_RawTextFitsTheWindow :
    ∀ j, j < 6 → field18.length ≤ 8 ∧ numeric field18 = some (six (sixOf ⟨true, 1234567, 0⟩) j) := by decide

/-- The largest value, the smallest, and a zero; a finite magnitude that is not the nearest; a tie of the rounding. -/
theorem witness_F64IsTheNearestBinary64 : (⟨true, 99999999, 7⟩ : Value).mant ≠ 0 ∧ (⟨true, 0, 0⟩ : Value).mant = 0 ∧
    (BitVec.ofNat 63 1).toNat / 2 ^ 52 < 2047 ∧ BitVec.ofNat 63 1 ≠ (f64Word ⟨false, 123000, 4⟩).setWidth 63 ∧
    2 * (3 % 2) = 2 ∧ 2 * (1 % 2) = 2 := by decide

/-- ENG-2: POLL at '#'; and the last step of a POLL. -/
theorem witness_AddressSetAndNotice : (cmd 0x00230009 State.reset).engine.seq = .start ∧
    addrValid (cmd 0x00230009 State.reset).engine.addr = false ∧ (inEngine .finish []).engine.seq = .finish := by decide

/-- The first and the last cycle of a frame, and the cycle of the stop sample. -/
theorem witness_Frames : 0 < 10 * bitCyclesAt State.reset.params .normal ∧ 99 < 10 * bitCyclesAt State.reset.params .slow ∧
    bitCyclesAt State.reset.params .normal / 2 + 9 * bitCyclesAt State.reset.params .normal <
      10 * bitCyclesAt State.reset.params .normal := by decide

/-- A mark of one bit time and its last cycle. -/
theorem witness_FrameOccupiesTenBitTimes_mark : 0 < 1 * bitCycles State.reset.params ∧ 4 < 1 * bitCycles State.reset.params := by
  decide

/-- The receiver's sample points: before one, the start check, the first and last data bit, parity, stop. -/
theorem witness_ZeroDelayEchoIsDelivered_samples :
    (let p := State.reset.params
     0 + 1 < bitCyclesAt p .normal / 2 ∧ bitCyclesAt p .normal / 2 ≤ 1 + 1 ∧ 3 + 1 < bitCyclesAt p .normal ∧
     bitCyclesAt p .normal ≤ 4 + 1 ∧ bitCyclesAt p .slow ≤ 9 + 1 ∧ 1 ≤ 1 ∧ 7 ≤ 7) := by decide

/-- A delivery with room for one, a delivery to a full queue, a cycle without a delivery, a cycle that opens the line. -/
theorem witness_ZeroDelayEchoIsDelivered_queue :
    (∀ n, n = 15 ∨ n = 16 →
      (enginePhase (atStop n) (transportPhase (atStop n) (atStop n))).line.rx = (atStop n).line.rx ∧
      (rxNext (atStop n).params (atStop n).line.rate true (atStop n).line.rx).delivered = some 0x4D) ∧
    (atStop 15).line.rxq.length < rxqDepth (atStop 15).params ∧
    rxqDepth (atStop 16).params ≤ (atStop 16).line.rxq.length ∧
    (rxNext State.reset.params .normal true .hunt).delivered = none ∧
    (enginePhase (cmd 0x05 State.reset) (transportPhase (cmd 0x05 State.reset) (cmd 0x05 State.reset))).line.rx ≠
      (cmd 0x05 State.reset).line.rx ∧
    (atStop 15).rxd = true :: [] := by
  refine ⟨?_, by decide⟩
  rintro n (rfl | rfl) <;> decide

theorem witness_WakeSequenceSteps : waking.xport.seq = .wake ∧ waking.xport.breakEn = true ∧
    (inXport .wake .holding).xport.breakEn = false ∧ (inXport .brk .transmitting).line.tx = .idle ∧
    { writing with xport := { writing.xport with seq := .brk } }.line.tx ≠ .idle ∧
    State.reset.params.markBits = 0 ∧ 0 < { State.reset with params := ⟨0, 15, 1⟩ }.params.markBits ∧
    (inXport .mark .transmitting).xport.seq = .mark := by decide

theorem witness_WriteSequenceSteps : writing.xport.seq = .write ∧ writing.line.tx ≠ .idle ∧
    (inXport .write .transmitting).line.tx = .idle ∧
    (inXport .write .transmitting).xport.cmdlLen ≤ (inXport .write .transmitting).xport.wi ∧
    (cmd 0x06 (withTxlen 16)).xport.wi < (cmd 0x06 (withTxlen 16)).xport.cmdlLen ∧
    (cmd 0x06 (withTxlen 16)).xport.cmdl[15]? = some 0 := by decide

theorem witness_ListenLoopSteps : (cmd 0x07 State.reset).xport.seq = .lstart ∧
    { listening with line := { listening.line with rxq := [0x41] } }.line.rxq = 0x41 :: [] ∧ listening.line.rxq = [] ∧
    listening.xport.ltCycles ≤ listening.xport.idle ∧ listening.xport.echoLen = 0 ∧
    { listening with xport := { listening.xport with ltCycles := 1 } }.xport.idle < 1 ∧
    0 < { listening with xport := { listening.xport with echoLen := 4 } }.xport.echoLen := by decide

/-- LISTEN with ECHO, LT_MS = 0 and TXLEN = 4, and its pattern; TXBUF0 is that of S-12. -/
theorem witness_SilentListenEndsOnTime_echo :
    let s := { State.reset with
      regs := { State.reset.regs with ltMs := 0, txlen := 4, txbuf0 := 0xA1B0CDB0 },
      host := [⟨true, some (encode (.listen true))⟩], rxd := List.replicate 3 true }
    busy s = false ∧ s.line.rxq = [] ∧ s.regs.txlen.toNat ≤ 16 ∧ s.line.rx = .off ∧
    0 = s.regs.ltMs.toNat * tickCycles s.params ∧ s.rxd = List.replicate (0 + 3) true ∧
    echo.length = s.regs.txlen.toNat ∧
    (∀ n, n < echo.length → echo[n]? =
      ([s.regs.txbuf0, s.regs.txbuf1, s.regs.txbuf2, s.regs.txbuf3][n / 4]?).map
        (fun w => ((w.extractLsb' (8 * (n % 4)) 8).setWidth 7).setWidth 8)) := by decide

/-- LT_MS = 0 from reset, and LT_MS = 1 (6 cycles) with an open line. -/
theorem witness_SilentListenEndsOnTime :
    (let s := { State.reset with
        regs := { State.reset.regs with ltMs := 0 }, host := [⟨true, some (encode (.listen false))⟩],
        rxd := List.replicate 3 true }
     busy s = false ∧ s.line.rxq = [] ∧ s.line.rx = .off ∧ s.host = [⟨true, some (encode (.listen false))⟩] ∧
     0 = s.regs.ltMs.toNat * tickCycles s.params ∧ s.rxd = List.replicate (0 + 3) true) ∧
    (let s := { withLine .holding [] with
        regs := { State.reset.regs with ltMs := 1 }, host := [⟨true, some (encode (.listen false))⟩],
        rxd := List.replicate 9 true }
     busy s = false ∧ s.line.rxq = [] ∧ s.line.rx = .hunt ∧ s.host = [⟨true, some (encode (.listen false))⟩] ∧
     6 = s.regs.ltMs.toNat * tickCycles s.params ∧ s.rxd = List.replicate (6 + 3) true) := by decide

theorem witness_PollBeginsAndEnds : (cmd 0x00300209 State.reset).engine.seq = .start ∧
    2 ≤ (cmd 0x00300209 State.reset).engine.kind.toNat ∧ addrValid (cmd 0x00230009 State.reset).engine.addr = false ∧
    (cmd 0x00300109 State.reset).engine.kind.toNat < 2 ∧ addrValid (cmd 0x00300109 State.reset).engine.addr = true ∧
    (inEngine .finish []).engine.seq = .finish := by decide

/-- An engine state with its counters: attempts made, block, fields counted, measurements due. -/
def inBlock (q : PSeq) (tries : BitVec 4) (b count : Nat) (n : BitVec 4) : State :=
  { inEngine q [] with engine := { (inEngine q []).engine with tries := tries, b := b, count := count, srqN := n } }

/-- P_READY_LISTEN of a 1 s wait that began in cycle 0, in cycle `n`. -/
def waitingAt (n : Nat) : State :=
  { inEngine .readyListen [] with engine := { (inEngine .readyListen []).engine with srqT := 1 }, now := n }

theorem witness_StartAttempts : echo.length = 4 ∧
    (let s := inBlock .issueSend 2 0 0 0
     s.engine.seq = .issueSend ∧ s.engine.ia.toNat ≤ s.engine.tries.toNat) ∧
    (let s := inBlock .issueSend 1 0 0 0
     s.engine.seq = .issueSend ∧ s.engine.tries.toNat < s.engine.ia.toNat) ∧
    (inEngine .issueCheck []).engine.seq = .issueCheck ∧
    parseSrq (inEngine .issueCheck []).fifo.q = none ∧
    parseSrq (inEngine .issueCheck srqReply).fifo.q = some (0x30, 12, 3) := by decide

theorem witness_ReadyWait :
    (let s := waitingAt 6000
     s.engine.seq = .readyListen ∧
      1000 * s.engine.srqT.toNat ≤ (s.now - s.engine.t0) / (clkHz s.params / 1000)) ∧
    (let s := waitingAt 5999
     s.engine.seq = .readyListen ∧
      (s.now - s.engine.t0) / (clkHz s.params / 1000) < 1000 * s.engine.srqT.toNat) ∧
    (let s := inEngine .readyCheck [0x30, 0x0D, 0x0A, 0x7A]
     s.engine.seq = .readyCheck ∧ [s.engine.addr, 0x0D, 0x0A] <+: s.fifo.q) ∧
    (let s := inEngine .readyCheck [0x30, 0x0D]
     s.engine.seq = .readyCheck ∧ ¬ [s.engine.addr, 0x0D, 0x0A] <+: s.fifo.q) := by decide

theorem witness_DataBlockAttempts :
    (let s := inBlock .dataSend 0 1 3 3
     s.engine.seq = .dataSend ∧ s.engine.srqN.toNat ≤ s.engine.count) ∧
    (let s := inBlock .dataSend 0 2 6 9
     s.engine.seq = .dataSend ∧ 2 ≤ s.engine.b) ∧
    (let s := inBlock .dataSend 2 0 0 1
     s.engine.seq = .dataSend ∧ s.engine.count < s.engine.srqN.toNat ∧ s.engine.b = 0 ∧
      s.engine.ba.toNat ≤ s.engine.tries.toNat) ∧
    (let s := inBlock .dataSend 2 1 3 4
     s.engine.seq = .dataSend ∧ s.engine.count < s.engine.srqN.toNat ∧ s.engine.b = 1 ∧
      s.engine.ba.toNat ≤ s.engine.tries.toNat) ∧
    (let s := inBlock .dataSend 1 1 3 4
     s.engine.seq = .dataSend ∧ s.engine.count < s.engine.srqN.toNat ∧ s.engine.b ≤ 1 ∧
      s.engine.tries.toNat < s.engine.ba.toNat) := by decide

theorem witness_DataReplyCheck : (inEngine .dataCheck []).engine.seq = .dataCheck ∧
    parseData (inEngine .dataCheck []).fifo.q = none ∧ (inEngine .dataCheck dataReply).engine.b = 0 ∧
    parseData (inEngine .dataCheck dataReply).fifo.q =
      some (slice dataReply 2 10, slice dataReply 11 19, slice dataReply 20 28) := by decide

/-- A conversion with numeric fields, and one with a field that is not numeric. -/
theorem witness_ConversionIsAllOrNothing : converting.engine.seq = .convert ∧ converting.engine.kind = 0 ∧
    someFieldNotNumeric { converting.engine with blkOk1 := true } = true ∧
    (∀ j, j < 3 → blockParsed converting.engine j = true ∧ numeric (six converting.engine.fields j) =
      some (if j = 0 then ⟨false, 123000, 4⟩ else ⟨true, 1234567, 0⟩)) ∧
    (∀ j, 3 ≤ j → j < 6 → blockParsed converting.engine j = false) := by decide

theorem witness_UsageErrorPollTakesThreeCycles :
    busy State.reset = false ∧ State.reset.line.tx = .idle ∧
    (State.reset.withFetchWord 32 0x00300209).host = [⟨true, some (encode (.poll 2 0x30))⟩] ∧ 2 ≤ (2 : BitVec 2).toNat ∧
    (State.reset.withFetchWord 32 0x00230009).host = [⟨true, some (encode (.poll 0 0x23))⟩] ∧
    addrValid 0x23 = false := by decide

theorem witness_BanksChangeOnlyInConversion : step converting = .next (nextOf (step converting)) ∧
    (hostNow converting).rstN = true ∧ (nextOf (step converting)).moisture ≠ converting.moisture := by
  refine ⟨rfl, by decide, ?_⟩
  intro h
  exact absurd (congrArg Bank.rawLen h) (by decide)

/-- The mode changes in X_WAKE, in X_LSTART, and by SETMODE. -/
theorem witness_ModeChangesOnlyAsTheSpecSays :
    (step waking = .next (nextOf (step waking)) ∧ (hostNow waking).rstN = true ∧
      (nextOf (step waking)).line.mode ≠ waking.line.mode) ∧
    ((nextOf (step (cmd 0x07 State.reset))).line.mode ≠ (cmd 0x07 State.reset).line.mode) ∧
    ((nextOf (step (State.reset.withFetchWord 32 0x31))).line.mode ≠ State.reset.line.mode) := by
  exact ⟨⟨rfl, by decide, by decide⟩, by decide, by decide⟩

theorem waking_lineSafe : LineSafe waking := by
  constructor <;> decide

/-- X_WAKE starts a transmission; X_LISTEN fills `Q`. -/
theorem witness_HalfDuplex : LineSafe waking ∧ step waking = .next (nextOf (step waking)) ∧
    (hostNow waking).rstN = true ∧ waking.line.tx = .idle ∧ (nextOf (step waking)).line.tx ≠ .idle ∧
    { listening with line := { listening.line with rxq := [0x41] } }.fifo.q.length <
      (nextOf (step { listening with line := { listening.line with rxq := [0x41] } })).fifo.q.length :=
  ⟨waking_lineSafe, rfl, by decide, by decide, by decide, by decide⟩

theorem listening_lineSafe : LineSafe { listening with line := { listening.line with rxq := [0x41] } } := by
  constructor <;> decide

theorem witness_StepKeepsLineSafe : LineSafe waking ∧ ∃ t, step waking = .next t := ⟨waking_lineSafe, ⟨_, rfl⟩⟩

theorem witness_StepKeepsBufferSafe :
    BufferSafe { withQ (echo ++ srqReply) false with line := (withLine .listening [0x61]).line } ∧
    ∃ t, step { withQ (echo ++ srqReply) false with line := (withLine .listening [0x61]).line } = .next t := by
  refine ⟨?_, ⟨_, rfl⟩⟩
  constructor <;> decide

theorem witness_StepKeepsCodeSafe :
    CodeSafe { converting with srq := ⟨0x30, 999, 9, true⟩ } ∧
    ∃ t, step { converting with srq := ⟨0x30, 999, 9, true⟩ } = .next t := by
  refine ⟨?_, ⟨_, rfl⟩⟩
  constructor <;> first | decide | exact .inl rfl

/-- The reading RAW-4 is whole: 25 characters, then zeros. -/
theorem raw4_bankSafe : BankSafe converting.moisture := by
  refine ⟨by decide, by decide, ?_, by decide⟩
  intro i hi
  have hl : converting.moisture.rawLen.toNat = 25 := by decide
  have hz : ∀ j : Fin 68, 25 ≤ j.val → at' converting.moisture.raw j.val = 0 := by decide
  by_cases h : i < 68
  · exact hz ⟨i, h⟩ (show 25 ≤ i by omega)
  · have hn : converting.moisture.raw.length = 68 := by decide
    rw [at', List.getD_eq_default _ _ (by omega)]

theorem witness_StepKeepsReadingSafe : ReadingSafe converting ∧ ∃ t, step converting = .next t := by
  refine ⟨⟨raw4_bankSafe, ?_, ?_⟩, ⟨_, rfl⟩⟩
  · refine ⟨by decide, by decide, ?_, by decide⟩
    intro i _
    have h : ∀ n, (List.replicate n (0 : Byte)).getD i 0 = 0 := fun n => by
      rw [List.getD_eq_getElem?_getD, List.getElem?_replicate]
      split <;> rfl
    exact h 68
  · intro j
    unfold six
    split <;> decide

end Sys2Proof.Tests
end

section
/-! ## The bounds of the buffers and latches, kept by every step -/

namespace Sys2Proof.Machine

/-! ### One bound, one reasoning rule -/

/-- A buffer whose contents are part of the old contents is within its bounds. -/
theorem BufferSafe.fifo_sublist {s : State} (h : BufferSafe s) {f : Fifo} (hf : f.q.Sublist s.fifo.q) :
    BufferSafe { s with fifo := f } :=
  { h with
    fifo := hf.length_le.trans h.fifo
    fifoSeven := fun x hx => h.fifoSeven x (hf.subset hx) }

/-- A line whose queue is part of the old queue is within its bounds. -/
theorem BufferSafe.rxq_sublist {s : State} (h : BufferSafe s) {l : Line} (hl : l.rxq.Sublist s.line.rxq) :
    BufferSafe { s with line := l } :=
  { h with
    rxq := hl.length_le.trans h.rxq
    rxqSeven := fun x hx => h.rxqSeven x (hl.subset hx) }

theorem BufferSafe.fifoAppend {s : State} (h : BufferSafe s) {x : Byte} (hx : x.getLsbD 7 = false) :
    BufferSafe { s with fifo := fifoAppend x s.fifo } :=
  { h with
    fifo := fifoAppend_length_le x s.fifo h.fifo
    fifoSeven := fun y hy => (mem_fifoAppend hy).elim (h.fifoSeven y) (fun hyx => hyx ▸ hx) }

theorem latchChars_length {cs old : List Char7} (hcs : cs.length ≤ 16) (hold : old.length = 16) :
    (latchChars cs old).length = 16 := by
  simp only [latchChars, List.length_append, List.length_drop, hold]
  omega

theorem txbufBytes_length (r : HostRegs) : (txbufBytes r).length = 16 := rfl

theorem txChars_length_le (r : HostRegs) : (txChars r).length ≤ 16 := by
  simp [txChars, txbufBytes_length]

theorem setModeLine_rxq_sublist (m : BusMode) (l : Line) : (setModeLine m l).rxq.Sublist l.rxq := by
  by_cases hm : m = .disabled
  · subst hm
    by_cases hl : l.mode = .disabled
    · rw [setModeLine_closed l hl]
    · rw [setModeLine_close l hl]
      exact List.nil_sublist _
  · rw [setModeLine_open m l hm]

theorem BufferSafe.setMode {s : State} (h : BufferSafe s) (m : BusMode) : BufferSafe (setMode m s) :=
  h.rxq_sublist (setModeLine_rxq_sublist m s.line)

theorem BufferSafe.flushQ {s : State} (h : BufferSafe s) : BufferSafe (flushQ s) :=
  h.fifo_sublist (List.nil_sublist _)

/-! ### The host access -/

theorem SingleCycleEffect.bufferSafe {a : BusAccess} {s t : State} (e : SingleCycleEffect a s t)
    (h : BufferSafe s) : BufferSafe t ∧ t.line.rxq.Sublist s.line.rxq := by
  cases e with
  | setmode m => exact ⟨h.setMode m, setModeLine_rxq_sublist m s.line⟩
  | busBegin => exact ⟨{ h.setMode .holding with }, setModeLine_rxq_sublist .holding s.line⟩
  | busEnd => exact ⟨{ h.setMode .disabled with }, setModeLine_rxq_sublist .disabled s.line⟩
  | setactive =>
    unfold setactiveEffect
    split
    · exact ⟨{ h with }, List.Sublist.refl _⟩
    · exact ⟨{ h.setMode .holding with }, setModeLine_rxq_sublist .holding s.line⟩
  | flush => exact ⟨h.flushQ, List.Sublist.refl _⟩

/-- Latching at most 16 characters fills the command latch and its lengths within their bounds (R84, R183, R266). -/
theorem AcceptanceEffect.bufferSafe {s t : State} (e : AcceptanceEffect s t) (h : BufferSafe s) :
    BufferSafe t ∧ t.line.rxq = s.line.rxq := by
  refine ⟨?_, by cases e <;> rfl⟩
  have hlatch : (latchChars (txChars s.regs) s.xport.cmdl).length = 16 :=
    latchChars_length (txChars_length_le s.regs) h.cmdl
  cases e with
  | wake => exact { h with cmdlLen := Nat.zero_le 16 }
  | sendcmd hlen => exact { h with cmdl := hlatch, cmdlLen := hlen, echoLen := hlen, wi := Nat.zero_le 16 }
  | listen echo hlen =>
    cases echo with
    | false => exact { h with echoLen := Nat.zero_le 16 }
    | true => exact { h with cmdl := hlatch, echoLen := hlen rfl }
  | poll => exact { h with }

theorem hostAccess_bufferSafe {a : BusAccess} {s u : State} (h : BufferSafe s) (hu : hostAccess a s = .next u) :
    BufferSafe u ∧ u.line.rxq.Sublist s.line.rxq := by
  rcases hostAccess_cases hu with ⟨k, -, rfl⟩ | ⟨-, e⟩ | ⟨-, e⟩ | ⟨r, rfl⟩ | ⟨-, r, rfl⟩ | rfl | ⟨r, rfl⟩ | rfl
  · exact ⟨{ h with }, List.Sublist.refl _⟩
  · exact e.bufferSafe h
  · obtain ⟨hsafe, hrxq⟩ := e.bufferSafe h
    exact ⟨hsafe, hrxq ▸ List.Sublist.refl _⟩
  · exact ⟨{ h with }, List.Sublist.refl _⟩
  · exact ⟨{ h.fifo_sublist (f := fifoRead s.fifo) (List.drop_sublist 1 _) with }, List.Sublist.refl _⟩
  · exact ⟨{ h with }, List.Sublist.refl _⟩
  · exact ⟨{ h with }, List.Sublist.refl _⟩
  · exact ⟨h, List.Sublist.refl _⟩

/-! ### The transport -/

theorem BufferSafe.setXseq {s : State} (h : BufferSafe s) (q : XSeq) : BufferSafe (setXseq q s) :=
  { h with }

theorem BufferSafe.endListen {s : State} (h : BufferSafe s) : BufferSafe (endListen s) := by
  unfold Machine.endListen
  split
  · exact (h.fifo_sublist (f := fifoStrip _ s.fifo) (stripEcho_sublist _ _)).setXseq .idle
  · exact h.setXseq .idle

theorem BufferSafe.stepWake {s : State} (h : BufferSafe s) : BufferSafe (stepWake s) := by
  have ht : BufferSafe (Machine.setMode .transmitting s) := h.setMode .transmitting
  unfold Machine.stepWake
  dsimp only
  split
  · exact { ht with }
  · exact ht.setXseq _

theorem BufferSafe.stepBreak {s : State} (h : BufferSafe s) : BufferSafe (stepBreak s) := by
  unfold Machine.stepBreak
  dsimp only
  repeat' split
  · exact { h with }
  · exact { h with }
  · exact h

theorem BufferSafe.stepMark {s : State} (h : BufferSafe s) : BufferSafe (stepMark s) := by
  unfold Machine.stepMark
  split
  · exact h.setXseq _
  · exact h

/-- The write index stays within the latch because it moves only while it is below `cmdlLen` (R179). -/
theorem BufferSafe.stepWrite {s : State} (h : BufferSafe s) : BufferSafe (stepWrite s) := by
  unfold Machine.stepWrite
  split
  · split
    · rename_i hwi
      exact { h with wi := Nat.le_trans hwi h.cmdlLen }
    · exact (h.rxq_sublist (l := resetInput s.line) (List.nil_sublist _)).setXseq .lstart
  · exact h

theorem BufferSafe.stepLstart {s : State} (h : BufferSafe s) : BufferSafe (stepLstart s) :=
  { h.setMode .listening with }

/-- A byte moves from the head of `rxq` to the end of `Q` (R181). -/
theorem BufferSafe.stepListen {s : State} (h : BufferSafe s) : BufferSafe (stepListen s) := by
  unfold Machine.stepListen
  split
  · rename_i x rest hq
    have hx : x.getLsbD 7 = false := h.rxqSeven x (by simp [hq])
    have hl : rest.Sublist s.line.rxq := hq ▸ List.sublist_cons_self x rest
    exact { (h.fifoAppend hx).rxq_sublist (l := { s.line with rxq := rest }) hl with }
  · split
    · exact h.endListen
    · exact { h with }

theorem BufferSafe.transportStep {s : State} (h : BufferSafe s) : BufferSafe (transportStep s) := by
  unfold Machine.transportStep
  cases s.xport.seq with
  | idle => exact h
  | wake => exact h.stepWake
  | brk => exact h.stepBreak
  | mark => exact h.stepMark
  | write => exact h.stepWrite
  | lstart => exact h.stepLstart
  | listen => exact h.stepListen

/-! ### The engine -/

theorem BufferSafe.setPseq {s : State} (h : BufferSafe s) (q : PSeq) : BufferSafe (setPseq q s) :=
  { h with }

theorem BufferSafe.finishWith {s : State} (h : BufferSafe s) (k : BitVec 4) : BufferSafe (finishWith k s) :=
  { h with }

theorem BufferSafe.setPhase {s : State} (h : BufferSafe s) (k : BitVec 3) : BufferSafe (setPhase k s) :=
  { h with }

theorem BufferSafe.gotoData {s : State} (h : BufferSafe s) : BufferSafe (gotoData s) :=
  { h with }

theorem BufferSafe.nextBlock {s : State} (h : BufferSafe s) : BufferSafe (nextBlock s) :=
  { h with }

/-- What a COLLECT takes is the whole of `Q`, so its bound is that of `Q` (R254). -/
theorem BufferSafe.collect {s : State} (h : BufferSafe s) : BufferSafe (collect s) :=
  { h.flushQ with resp := h.fifo }

/-- START_SEND latches a command of at most 4 bytes (R266). -/
theorem BufferSafe.startSend {s : State} (h : BufferSafe s) {p : List Byte} (hp : p.length ≤ 4) :
    BufferSafe (startSend p s) :=
  have hp16 : p.length ≤ 16 := hp.trans (by decide)
  { h with
    cmdl := latchChars_length (by simpa using hp16) h.cmdl
    cmdlLen := hp16
    echoLen := hp16
    wi := Nat.zero_le 16 }

theorem BufferSafe.startListen {s : State} (h : BufferSafe s) (ms : Nat) : BufferSafe (startListen ms s) :=
  { h with echoLen := Nat.zero_le 16 }

theorem BufferSafe.failBlock {s : State} (h : BufferSafe s) : BufferSafe (failBlock s) := by
  unfold Machine.failBlock
  split <;> exact { h with }

theorem BufferSafe.setBlkTries {s : State} (h : BufferSafe s) (n : BitVec 4) : BufferSafe (setBlkTries n s) := by
  unfold Machine.setBlkTries
  split <;> exact { h with }

theorem BufferSafe.storeFields {s : State} (h : BufferSafe s) (f0 f1 f2 : List Byte) :
    BufferSafe (storeFields f0 f1 f2 s) := by
  unfold Machine.storeFields
  split <;> exact { h with }

theorem BufferSafe.setBank {s : State} (h : BufferSafe s) (k : BitVec 2) (d : Bank) :
    BufferSafe (setBank k d s) := by
  unfold Machine.setBank
  repeat' split
  · exact { h with }
  · exact { h with }
  · exact h

theorem BufferSafe.stepStart {s : State} (h : BufferSafe s) : BufferSafe (stepStart s) := by
  unfold Machine.stepStart
  dsimp only
  split
  · exact h.flushQ.finishWith 1
  · exact { h.flushQ with cmdp := Nat.le_refl 4 }

theorem BufferSafe.stepIssueSend {s : State} (h : BufferSafe s) : BufferSafe (stepIssueSend s) := by
  unfold Machine.stepIssueSend
  split
  · exact h.finishWith 2
  · exact { h.startSend h.cmdp with }

theorem BufferSafe.stepIssueCheck {s : State} (h : BufferSafe s) : BufferSafe (stepIssueCheck s) := by
  unfold Machine.stepIssueCheck
  dsimp only
  split <;> exact { h.collect with }

theorem BufferSafe.stepReadyListen {s : State} (h : BufferSafe s) : BufferSafe (stepReadyListen s) := by
  unfold Machine.stepReadyListen
  split
  · exact h.gotoData
  · exact (h.startListen _).setPseq .readyCheck

theorem BufferSafe.stepReadyCheck {s : State} (h : BufferSafe s) : BufferSafe (stepReadyCheck s) := by
  unfold Machine.stepReadyCheck
  dsimp only
  split <;> exact { h.collect with }

theorem BufferSafe.stepDataSend {s : State} (h : BufferSafe s) : BufferSafe (stepDataSend s) := by
  unfold Machine.stepDataSend
  repeat' split
  · exact (h.setPseq .convert).setPhase 5
  · exact h.failBlock.finishWith _
  · exact h.failBlock.nextBlock
  · have hdue : BufferSafe
        { s with engine := { s.engine with tries := s.engine.tries + 1, seq := .dataCheck } } := { h with }
    exact (hdue.setBlkTries _).startSend (Nat.le_refl 4)

theorem BufferSafe.stepDataCheck {s : State} (h : BufferSafe s) : BufferSafe (stepDataCheck s) := by
  unfold Machine.stepDataCheck
  dsimp only
  split
  · exact h.collect.setPseq .dataSend
  · exact (h.collect.storeFields _ _ _).nextBlock

theorem BufferSafe.stepConvert {s : State} (h : BufferSafe s) : BufferSafe (stepConvert s) := by
  unfold Machine.stepConvert
  split
  · exact (h.setBank _ _).finishWith 0
  · have hncf : BufferSafe { s with poll := { s.poll with ncf := true } } := { h with }
    exact (hncf.setBank _ _).finishWith 0

theorem BufferSafe.stepFinish {s : State} (h : BufferSafe s) : BufferSafe (stepFinish s) :=
  { h.flushQ with }

theorem BufferSafe.engineStep {s : State} (h : BufferSafe s) (xIdle : Bool) : BufferSafe (engineStep xIdle s) := by
  unfold Machine.engineStep
  cases s.engine.seq with
  | idle => exact h
  | start => exact h.stepStart
  | issueSend => exact h.stepIssueSend
  | issueCheck =>
    cases xIdle
    · exact h
    · exact h.stepIssueCheck
  | readyListen => exact h.stepReadyListen
  | readyCheck =>
    cases xIdle
    · exact h
    · exact h.stepReadyCheck
  | dataSend => exact h.stepDataSend
  | dataCheck =>
    cases xIdle
    · exact h
    · exact h.stepDataCheck
  | convert => exact h.stepConvert
  | finish => exact h.stepFinish

/-! ### The UART -/

theorem BufferSafe.uartTx {s : State} (h : BufferSafe s) (s0 : State) : BufferSafe (uartTx s0 s) := by
  rcases uartTx_cases s0 s with ⟨-, hs⟩ | ⟨-, hs⟩ <;> rw [hs]
  · exact { h with }
  · exact h

theorem uartTx_rxq (s0 s : State) : (uartTx s0 s).line.rxq = s.line.rxq := by
  rcases uartTx_cases s0 s with ⟨-, hs⟩ | ⟨-, hs⟩ <;> rw [hs]

/-- A delivered character has bit 7 = 0 and finds room, also in the queue as the sequencers left it, because they
never lengthen it (R229, R230). -/
theorem BufferSafe.deliver {s : State} (h : BufferSafe s) {len : Nat} (hlen : s.line.rxq.length ≤ len)
    (c : Char7) : BufferSafe { s with line := deliver s.params len (byteOf c) s.line } := by
  rcases deliver_cases s.params len (byteOf c) s.line with ⟨hroom, hd⟩ | ⟨-, hd⟩ <;> rw [hd]
  · refine { h with rxq := ?_, rxqSeven := fun y hy => ?_ }
    · rw [List.length_append]
      exact Nat.lt_of_le_of_lt hlen hroom
    · rcases List.mem_append.mp hy with hy | hy
      · exact h.rxqSeven y hy
      · exact List.mem_singleton.mp hy ▸ byteOf_bit7 c
  · exact { h with }

theorem BufferSafe.uartRx {s : State} (h : BufferSafe s) {s0 : State}
    (hlen : s.line.rxq.length ≤ s0.line.rxq.length) (level : Bool) : BufferSafe (uartRx level s0 s) := by
  rcases uartRx_cases level s0 s with ⟨-, hs⟩ | ⟨-, hs⟩ | ⟨c, -, -, hs⟩ <;> rw [hs]
  · exact h
  · exact { h with }
  · have hrx : BufferSafe
        { s with line := { s.line with rx := (rxNext s.params s0.line.rate level s0.line.rx).rx } } := { h with }
    exact hrx.deliver hlen c

/-! ### The cycle -/

theorem BufferSafe.transportPhase {s : State} (h : BufferSafe s) (s0 : State) : BufferSafe (transportPhase s0 s) := by
  unfold Machine.transportPhase
  split
  · exact h
  · exact h.transportStep

theorem BufferSafe.enginePhase {s : State} (h : BufferSafe s) (s0 : State) : BufferSafe (enginePhase s0 s) := by
  unfold Machine.enginePhase
  split
  · exact h
  · exact h.engineStep _

theorem transportPhase_rxq_length (s0 s : State) :
    (transportPhase s0 s).line.rxq.length ≤ s.line.rxq.length := by
  unfold transportPhase
  split
  · exact Nat.le_refl _
  · exact transportStep_rxq_length s

theorem enginePhase_line (s0 s : State) : (enginePhase s0 s).line = s.line := by
  unfold enginePhase
  split
  · rfl
  · exact engineStep_line _ s

/-- The clock edge keeps the bounds when step 1 kept them and did not lengthen the input queue. -/
theorem BufferSafe.clockEdge {s0 s1 : State} (h : BufferSafe s1)
    (hlen : s1.line.rxq.length ≤ s0.line.rxq.length) : BufferSafe (clockEdge s0 s1) := by
  have hseq : BufferSafe (Machine.enginePhase s0 (Machine.transportPhase s0 s1)) :=
    (h.transportPhase s0).enginePhase s0
  have hroom : (Machine.uartTx s0 (Machine.enginePhase s0 (Machine.transportPhase s0 s1))).line.rxq.length ≤
      s0.line.rxq.length := by
    rw [uartTx_rxq, enginePhase_line]
    exact (transportPhase_rxq_length s0 s1).trans hlen
  exact { (hseq.uartTx s0).uartRx hroom (rxdNow s0) with }

/-- Reset leaves every buffer empty, every length 0 and the latch its sixteen characters (R40, R370). -/
theorem reset_bufferSafe (p : Params) : BufferSafe { State.reset with params := p } := by
  constructor <;> simp [State.reset]

theorem resetCycle_bufferSafe (s : State) : BufferSafe (resetCycle s) :=
  { reset_bufferSafe s.params with }

end Sys2Proof.Machine

open Sys2Proof Sys2Proof.Machine

/-- Settles O58, by the three things a step can do: reset, the clock edge alone, and a host access with the clock
edge after it. -/
theorem stepKeepsBufferSafe : Obligations.StepKeepsBufferSafe := by
  intro s t h hstep
  rcases step_cases hstep with ⟨-, rfl⟩ | ⟨-, -, rfl⟩ | ⟨a, u, -, -, hu, rfl⟩
  · exact resetCycle_bufferSafe s
  · exact h.clockEdge (Nat.le_refl _)
  · obtain ⟨hsafe, hrxq⟩ := hostAccess_bufferSafe h hu
    exact hsafe.clockEdge hrxq.length_le

end

section
/-! ## The transmitter cycle by cycle -/

namespace Sys2Proof.Machine

/-- CLK_HZ is a positive multiple of 6000, so a bit lasts at least five cycles (R6, R222). -/
theorem bitCyclesAt_pos (p : Params) (rate : Rate) : 0 < bitCyclesAt p rate := by
  cases rate <;> simp only [bitCyclesAt, bitCycles, clkHz] <;> omega

/-- Within a bit time the bit stays on the line. -/
theorem txNext_frame_within {p : Params} {rate : Rate} {bits : BitVec 10} {bit cyc : Nat}
    (h : cyc + 1 < bitCyclesAt p rate) :
    txNext p (.frame rate bits bit cyc) = .frame rate bits bit (cyc + 1) := by
  simp [txNext, h]

/-- At the end of a bit time the next bit comes, and after the tenth the transmitter is idle. -/
theorem txNext_frame_bitEnd {p : Params} {rate : Rate} {bits : BitVec 10} {bit cyc : Nat}
    (h : bitCyclesAt p rate ≤ cyc + 1) :
    txNext p (.frame rate bits bit cyc) = if bit < 9 then .frame rate bits (bit + 1) 0 else .idle := by
  simp [txNext, Nat.not_lt.mpr h]

/-- Cycle `n` of a frame: bit `n / bc`, in its cycle `n % bc` (R223). -/
theorem txNext_iterate_frame (p : Params) (rate : Rate) (bits : BitVec 10) (n : Nat)
    (hn : n < 10 * bitCyclesAt p rate) :
    (txNext p)^[n] (.frame rate bits 0 0) =
      .frame rate bits (n / bitCyclesAt p rate) (n % bitCyclesAt p rate) := by
  have hpos := bitCyclesAt_pos p rate
  induction n with
  | zero => simp
  | succ n ih =>
    rw [Function.iterate_succ_apply', ih (Nat.lt_of_succ_lt hn)]
    have hmod := Nat.mod_lt n hpos
    have hdiv := Nat.mod_add_div n (bitCyclesAt p rate)
    by_cases hc : n % bitCyclesAt p rate + 1 < bitCyclesAt p rate
    · obtain ⟨hd, hm⟩ : (n + 1) / bitCyclesAt p rate = n / bitCyclesAt p rate ∧
          (n + 1) % bitCyclesAt p rate = n % bitCyclesAt p rate + 1 :=
        (Nat.div_mod_unique hpos).mpr ⟨by omega, hc⟩
      rw [txNext_frame_within hc, hd, hm]
    · have hend : bitCyclesAt p rate * (n / bitCyclesAt p rate + 1) = n + 1 := by
        rw [Nat.mul_succ]
        omega
      obtain ⟨hd, hm⟩ : (n + 1) / bitCyclesAt p rate = n / bitCyclesAt p rate + 1 ∧
          (n + 1) % bitCyclesAt p rate = 0 :=
        (Nat.div_mod_unique hpos).mpr ⟨by omega, hpos⟩
      have hlast : n / bitCyclesAt p rate + 1 < 10 := hd ▸ Nat.div_lt_of_lt_mul (Nat.mul_comm _ _ ▸ hn)
      rw [txNext_frame_bitEnd (Nat.not_lt.mp hc), if_pos (by omega), hd, hm]

/-- The frame ends with its tenth bit time (R223). -/
theorem txNext_iterate_frame_end (p : Params) (rate : Rate) (bits : BitVec 10) :
    (txNext p)^[10 * bitCyclesAt p rate] (.frame rate bits 0 0) = .idle := by
  have hpos := bitCyclesAt_pos p rate
  obtain ⟨n, hn⟩ : ∃ n, 10 * bitCyclesAt p rate = n + 1 := ⟨10 * bitCyclesAt p rate - 1, by omega⟩
  obtain ⟨hd, hm⟩ : n / bitCyclesAt p rate = 9 ∧ n % bitCyclesAt p rate = bitCyclesAt p rate - 1 :=
    (Nat.div_mod_unique hpos).mpr ⟨by omega, by omega⟩
  rw [hn, Function.iterate_succ_apply', txNext_iterate_frame p rate bits n (by omega), hd, hm,
    txNext_frame_bitEnd (by omega), if_neg (Nat.lt_irrefl 9)]

/-- A mark counts its cycles down. -/
theorem txNext_iterate_mark (p : Params) (n k : Nat) (hk : k < n) :
    (txNext p)^[k] (.mark n) = .mark (n - k) := by
  induction k with
  | zero => rfl
  | succ k ih =>
    have hleft : 1 < n - k := by omega
    rw [Function.iterate_succ_apply', ih (Nat.lt_of_succ_lt hk), txNext, if_pos hleft, Nat.sub_sub]

theorem txNext_iterate_mark_end (p : Params) (n : Nat) (hn : 0 < n) : (txNext p)^[n] (.mark n) = .idle := by
  obtain ⟨k, rfl⟩ : ∃ k, n = k + 1 := ⟨n - 1, by omega⟩
  rw [Function.iterate_succ_apply', txNext_iterate_mark p (k + 1) k (Nat.lt_succ_self k), txNext,
    if_neg (by omega)]

end Sys2Proof.Machine

open Sys2Proof Sys2Proof.Machine

/-- Settles O40, from the closed form of the transmitter's state in cycle `n`. -/
theorem frameOccupiesTenBitTimes : Obligations.FrameOccupiesTenBitTimes := by
  refine ⟨fun p rate bits => ⟨fun n hn => ?_, txNext_iterate_frame_end p rate bits⟩,
    fun p => ⟨rfl, rfl, rfl, fun n hn => ⟨fun k hk => ?_, txNext_iterate_mark_end p n hn⟩⟩⟩
  · rw [txNext_iterate_frame p rate bits n hn]
    exact ⟨TxState.noConfusion, rfl⟩
  · rw [txNext_iterate_mark p n k hk]
    exact ⟨TxState.noConfusion, rfl⟩

end

section
/-! ## The STATUS word and the output pins -/

namespace Sys2Proof.Machine

/-! ### The fields of STATUS -/

theorem statusWord_mode (s : State) : (statusWord s).extractLsb' 0 2 = s.line.mode.toBits :=
  BitVec.extractLsb'_append_eq_right

theorem statusWord_errCause (s : State) : (statusWord s).extractLsb' 8 3 = s.err.errCause := by
  unfold statusWord
  simp (disch := decide) only [BitVec.extractLsb'_append_eq_of_le]
  exact BitVec.extractLsb'_append_eq_right

theorem statusWord_fifoLen (s : State) :
    (statusWord s).extractLsb' 16 8 = BitVec.ofNat 8 s.fifo.q.length := by
  unfold statusWord
  simp (disch := decide) only [BitVec.extractLsb'_append_eq_of_le]
  exact BitVec.extractLsb'_append_eq_right

theorem statusWord_rxqLen (s : State) :
    (statusWord s).extractLsb' 24 8 = BitVec.ofNat 8 s.line.rxq.length := by
  unfold statusWord
  simp (disch := decide) only [BitVec.extractLsb'_append_eq_of_le]
  exact BitVec.extractLsb'_eq_self

/-- The one-bit fields of STATUS (R25). -/
theorem statusWord_flags (s : State) :
    (statusWord s).getLsbD 2 = lineOpen s ∧ (statusWord s).getLsbD 3 = s.line.owner ∧
    (statusWord s).getLsbD 4 = busy s ∧ (statusWord s).getLsbD 5 = pbusy s ∧
    (statusWord s).getLsbD 6 = s.fifo.ovf ∧ (statusWord s).getLsbD 7 = s.err.cmdErr ∧
    (statusWord s).getLsbD 11 = s.err.actResult ∧ (statusWord s).getLsbD 12 = s.line.rxqOvr ∧
    (statusWord s).getLsbD 13 = txActive s ∧ (statusWord s).getLsbD 14 = listenActive s ∧
    (statusWord s).getLsbD 15 = false := by
  simp only [statusWord, BitVec.getLsbD_append, Nat.reduceLT, Nat.reduceSub, if_true, if_false,
    BitVec.getLsbD_ofBool]
  simp

theorem lineOpen_eq_decide (s : State) : lineOpen s = decide (s.line.mode ≠ .disabled) := by
  simp [lineOpen, bne, beq_eq_decide]

theorem pbusy_eq_decide (s : State) : pbusy s = decide (s.engine.seq ≠ .idle) := by
  simp [pbusy, bne, beq_eq_decide]

theorem busy_eq_decide (s : State) : busy s = decide (s.xport.seq ≠ .idle ∨ s.engine.seq ≠ .idle) := by
  simp [busy, pbusy, bne, beq_eq_decide]

theorem txActive_eq_decide (s : State) : txActive s = decide (s.line.tx ≠ .idle) := by
  simp [txActive, bne, beq_eq_decide]

theorem listenActive_eq_decide (s : State) : listenActive s = decide (s.xport.seq = .listen) :=
  beq_eq_decide ..

/-- Within their bounds, at most 64 and at most 255, both lengths fit their eight bits (R6, R25). -/
theorem BufferSafe.statusWord_lengths {s : State} (h : BufferSafe s) :
    ((statusWord s).extractLsb' 16 8).toNat = s.fifo.q.length ∧
    ((statusWord s).extractLsb' 24 8).toNat = s.line.rxq.length := by
  have hfifo : s.fifo.q.length ≤ 64 := h.fifo
  have hrxq : s.line.rxq.length ≤ 255 := h.rxq.trans (rxqDepth_range s.params).2
  rw [statusWord_fifoLen, statusWord_rxqLen, BitVec.toNat_ofNat, BitVec.toNat_ofNat]
  exact ⟨Nat.mod_eq_of_lt (by omega), Nat.mod_eq_of_lt (by omega)⟩

/-! ### The pins -/

theorem txEn_iff (s : State) :
    txEn s = true ↔ (hostNow s).rstN = true ∧ (s.line.mode = .holding ∨ s.line.mode = .transmitting) := by
  simp [txEn]

theorem txd_of_txLevel {s : State} (h : txLevel s.line.tx = true) : txd s = true := by
  simp [txd, h]

end Sys2Proof.Machine

open Sys2Proof Sys2Proof.Machine

/-- Settles O27, from the fields of the word and the pins in and out of reset. -/
theorem statusWordAndPins : Obligations.StatusWordAndPins := by
  intro s
  obtain ⟨hopen, howner, hbusy, hpbusy, hovf, hcmdErr, hact, hrxqOvr, htx, hlisten, hzero⟩ := statusWord_flags s
  rw [lineOpen_eq_decide] at hopen
  rw [busy_eq_decide] at hbusy
  rw [pbusy_eq_decide] at hpbusy
  rw [txActive_eq_decide] at htx
  rw [listenActive_eq_decide] at hlisten
  refine ⟨statusWord_mode s, hopen, howner, hbusy, hpbusy, hovf, hcmdErr, statusWord_errCause s, hact, hrxqOvr,
    htx, hlisten, hzero, statusWord_fifoLen s, statusWord_rxqLen s, BufferSafe.statusWord_lengths, txEn_iff s,
    fun hrun => ?_, fun hreset => ?_, fun hidle => ?_, fun n hmark => ?_, fun r bits bit cyc hrun hframe => ?_⟩
  · obtain ⟨-, -, hrs485⟩ := pins_running hrun
    exact hrs485
  · obtain ⟨htxd, -, hrs485⟩ := pins_reset hreset
    exact ⟨hrs485, htxd⟩
  · exact txd_of_txLevel (by rw [hidle, txLevel])
  · exact txd_of_txLevel (by rw [hmark, txLevel])
  · obtain ⟨htxd, -, -⟩ := pins_running hrun
    rw [htxd, hframe, txLevel]

end

section
/-! ## The line and the sequencers in agreement, kept by every step -/

namespace Sys2Proof.Machine

/-! ### A line with nothing in flight -/

/-- The line between transmissions: nothing in flight, the normal rate, and a receiver that is on exactly when the line is open
(R22, R171, R227). -/
structure LineQuiet (l : Line) : Prop where
  closed : l.mode = .disabled → l.rx = .off ∧ l.rxq = [] ∧ l.rxqOvr = false
  opened : l.mode ≠ .disabled → l.rx ≠ .off
  txIdle : l.tx = .idle
  normalRate : l.rate = .normal

theorem LineQuiet.setModeLine {l : Line} (h : LineQuiet l) (m : BusMode) : LineQuiet (setModeLine m l) := by
  by_cases hm : m = .disabled
  · subst hm
    by_cases hl : l.mode = .disabled
    · rwa [setModeLine_closed l hl]
    · rw [setModeLine_close l hl]
      exact ⟨fun _ => ⟨rfl, rfl, rfl⟩, fun hopen => absurd rfl hopen, rfl, rfl⟩
  · rw [setModeLine_open m l hm]
    refine ⟨fun hclosed => absurd hclosed hm, fun _ => ?_, h.txIdle, h.normalRate⟩
    dsimp only
    split
    · exact RxState.noConfusion
    · exact h.opened ‹_›

/-! ### The agreement, in terms of what runs -/

/-- The engine states in which the engine has the transport to itself (R267). -/
def EngineAlone (q : PSeq) : Prop :=
  q = .start ∨ q = .issueSend ∨ q = .readyListen ∨ q = .dataSend ∨ q = .convert ∨ q = .finish

/-- The transport states in which a frame or a mark may be in flight (R178, R179). -/
def Sending (q : XSeq) : Prop := q = .brk ∨ q = .mark ∨ q = .write

theorem LineSafe.not_engineAlone {s : State} (h : LineSafe s) (hx : s.xport.seq ≠ .idle) :
    ¬ EngineAlone s.engine.seq :=
  fun ha => hx (h.engineAlone ha)

theorem LineSafe.rate_normal {s : State} (h : LineSafe s) (hx : s.xport.seq ≠ .brk) : s.line.rate = .normal := by
  cases hr : s.line.rate with
  | normal => rfl
  | slow => exact absurd (h.breakRate hr) hx

/-- A safe line is quiet once its transmitter is idle and its rate normal. -/
theorem LineSafe.lineQuiet {s : State} (h : LineSafe s) (htx : s.line.tx = .idle) (hr : s.line.rate = .normal) :
    LineQuiet s.line where
  closed hm :=
    have ⟨hrx, hrxq, hovr, _, _⟩ := h.closed hm
    ⟨hrx, hrxq, hovr⟩
  opened := h.opened
  txIdle := htx
  normalRate := hr

/-- Outside the states that transmit the line is quiet (R178, R179, R222). -/
theorem LineSafe.lineQuiet_of_not_sending {s : State} (h : LineSafe s) (hx : ¬ Sending s.xport.seq) :
    LineQuiet s.line :=
  h.lineQuiet (by_contra fun htx => hx (h.inFlight htx)) (h.rate_normal fun hb => hx (.inl hb))

/-- A quiet line in the mode its transport state runs in is safe. -/
theorem LineQuiet.lineSafe {s : State} (h : LineQuiet s.line)
    (hsend : Sending s.xport.seq → s.line.mode = .transmitting)
    (hlisten : s.xport.seq = .listen → s.line.mode = .listening)
    (hengine : EngineAlone s.engine.seq → s.xport.seq = .idle) : LineSafe s where
  closed hm :=
    have ⟨hrx, hrxq, hovr⟩ := h.closed hm
    ⟨hrx, hrxq, hovr, h.txIdle, h.normalRate⟩
  opened := h.opened
  transmitting := hsend
  listening := hlisten
  inFlight htx := absurd h.txIdle htx
  breakRate hr := by simp [h.normalRate] at hr
  engineAlone := hengine

/-- A quiet line is safe in the transport states that ask no mode: X_IDLE, X_WAKE and X_LSTART. -/
theorem LineQuiet.lineSafe_of_any_mode {s : State} (h : LineQuiet s.line)
    (hx : s.xport.seq = .idle ∨ s.xport.seq = .wake ∨ s.xport.seq = .lstart)
    (hengine : EngineAlone s.engine.seq → s.xport.seq = .idle) : LineSafe s := by
  refine h.lineSafe ?_ ?_ hengine <;> rcases hx with hx | hx | hx <;> simp [Sending, hx]

/-- A frame or a mark in flight is safe in Transmitting, in the states that transmit, at the break rate only in X_BREAK. -/
theorem lineSafe_of_sending {s : State} (hmode : s.line.mode = .transmitting) (hrx : s.line.rx ≠ .off)
    (hx : Sending s.xport.seq) (hrate : s.line.rate = .slow → s.xport.seq = .brk)
    (hengine : ¬ EngineAlone s.engine.seq) : LineSafe s where
  closed hm := by simp [hmode] at hm
  opened _ := hrx
  transmitting _ := hmode
  listening hl := by simp [Sending, hl] at hx
  inFlight _ := hx
  breakRate := hrate
  engineAlone ha := absurd ha hengine

/-! ### The host access -/

theorem SingleCycleEffect.lineQuiet {a : BusAccess} {s t : State} (e : SingleCycleEffect a s t)
    (h : LineQuiet s.line) : LineQuiet t.line := by
  cases e with
  | setmode m => exact h.setModeLine m
  | busBegin => exact { h.setModeLine .holding with }
  | busEnd => exact { h.setModeLine .disabled with }
  | setactive =>
    unfold setactiveEffect
    split
    · exact { h with }
    · exact { h.setModeLine .holding with }
  | flush => exact h

/-- A single-cycle command leaves both sequencers. -/
theorem SingleCycleEffect.sequencers {a : BusAccess} {s t : State} (e : SingleCycleEffect a s t) :
    t.xport = s.xport ∧ t.engine = s.engine := by
  cases e with
  | setactive =>
    unfold setactiveEffect
    split <;> exact ⟨rfl, rfl⟩
  | _ => exact ⟨rfl, rfl⟩

/-- An acceptance leaves the line and starts one sequencer, the other staying idle. -/
theorem AcceptanceEffect.starts {s t : State} (e : AcceptanceEffect s t) :
    t.line = s.line ∧
    (((t.xport.seq = .wake ∨ t.xport.seq = .lstart) ∧ t.engine = s.engine) ∨
      (t.xport.seq = s.xport.seq ∧ t.engine.seq = .start)) := by
  cases e with
  | wake => exact ⟨rfl, .inl ⟨.inl rfl, rfl⟩⟩
  | sendcmd => exact ⟨rfl, .inl ⟨.inl rfl, rfl⟩⟩
  | listen => exact ⟨rfl, .inl ⟨.inr rfl, rfl⟩⟩
  | poll => exact ⟨rfl, .inr ⟨rfl, rfl⟩⟩

/-- Both sequencers idle: the line is quiet. -/
theorem LineSafe.lineQuiet_of_not_busy {s : State} (h : LineSafe s) (hb : busy s = false) : LineQuiet s.line := by
  obtain ⟨hx, -⟩ := idle_of_not_busy hb
  exact h.lineQuiet_of_not_sending (by simp [Sending, hx])

theorem hostAccess_lineSafe {a : BusAccess} {s u : State} (h : LineSafe s) (hu : hostAccess a s = .next u) :
    LineSafe u := by
  rcases hostAccess_cases hu with ⟨k, -, rfl⟩ | ⟨hb, e⟩ | ⟨hb, e⟩ | ⟨r, rfl⟩ | ⟨-, r, rfl⟩ | rfl | ⟨r, rfl⟩ | rfl
  · exact { h with }
  · obtain ⟨hx, -⟩ := idle_of_not_busy hb
    obtain ⟨hxport, -⟩ := e.sequencers
    rw [← hxport] at hx
    exact (e.lineQuiet (h.lineQuiet_of_not_busy hb)).lineSafe_of_any_mode (.inl hx) fun _ => hx
  · obtain ⟨hx, he⟩ := idle_of_not_busy hb
    obtain ⟨hline, ⟨hstart, hengine⟩ | ⟨hxport, -⟩⟩ := e.starts
    · refine (hline ▸ h.lineQuiet_of_not_busy hb : LineQuiet u.line).lineSafe_of_any_mode (.inr hstart) ?_
      simp [EngineAlone, hengine, he]
    · rw [← hxport] at hx
      exact (hline ▸ h.lineQuiet_of_not_busy hb : LineQuiet u.line).lineSafe_of_any_mode (.inl hx) fun _ => hx
  · exact { h with }
  · exact { h with }
  · exact { h with }
  · exact { h with }
  · exact h

/-- While BUSY no access reaches a sequencer (R84, R340). -/
theorem hostAccess_busy_sequencers {a : BusAccess} {s u : State} (hb : busy s = true)
    (hu : hostAccess a s = .next u) : u.xport = s.xport ∧ u.engine = s.engine := by
  rcases hostAccess_cases hu with ⟨k, -, rfl⟩ | ⟨hf, -⟩ | ⟨hf, -⟩ | ⟨r, rfl⟩ | ⟨hf, -⟩ | rfl | ⟨r, rfl⟩ | rfl
  · exact ⟨rfl, rfl⟩
  · simp [hb] at hf
  · simp [hb] at hf
  · exact ⟨rfl, rfl⟩
  · simp [hb] at hf
  · exact ⟨rfl, rfl⟩
  · exact ⟨rfl, rfl⟩
  · exact ⟨rfl, rfl⟩

/-! ### The transport -/

/-- After the wake the line is quiet and in Transmitting, as X_WRITE asks (R178). -/
theorem LineQuiet.nextAfterWake {s : State} (h : LineQuiet s.line) (hmode : s.line.mode = .transmitting)
    (hengine : ¬ EngineAlone s.engine.seq) : LineSafe (nextAfterWake s) := by
  refine LineQuiet.lineSafe h (fun _ => hmode) (fun hl => ?_) fun ha => absurd ha hengine
  simp only [Machine.nextAfterWake, setXseq_xport] at hl
  split at hl <;> simp at hl

theorem LineSafe.stepWake {s : State} (h : LineSafe s) (hx : s.xport.seq = .wake) : LineSafe (stepWake s) := by
  have hengine : ¬ EngineAlone s.engine.seq := h.not_engineAlone (by simp [hx])
  have hquiet : LineQuiet (setModeLine .transmitting s.line) :=
    (h.lineQuiet_of_not_sending (by simp [Sending, hx])).setModeLine _
  have hmode := setModeLine_mode .transmitting s.line
  unfold Machine.stepWake
  dsimp only
  split
  · exact lineSafe_of_sending hmode (hquiet.opened (by simp)) (.inl rfl) (fun _ => rfl) hengine
  · exact LineQuiet.nextAfterWake (s := setMode .transmitting s) hquiet hmode hengine

/-- The break over, the rate is normal again, with the mark or with a quiet line (R178). -/
theorem LineSafe.stepBreak {s : State} (h : LineSafe s) (hx : s.xport.seq = .brk) : LineSafe (stepBreak s) := by
  have hengine : ¬ EngineAlone s.engine.seq := h.not_engineAlone (by simp [hx])
  have hmode : s.line.mode = .transmitting := h.transmitting (.inl hx)
  have hrx : s.line.rx ≠ .off := h.opened (by simp [hmode])
  unfold Machine.stepBreak
  dsimp only
  repeat' split
  · exact lineSafe_of_sending hmode hrx (.inr (.inl rfl)) (fun hr => Rate.noConfusion hr) hengine
  · rename_i htx _
    refine LineQuiet.nextAfterWake (s := { s with line := { s.line with rate := .normal } }) ?_ hmode hengine
    exact ⟨fun hclosed => by simp [hmode] at hclosed, fun _ => hrx, htx, rfl⟩
  · exact h

theorem LineSafe.stepMark {s : State} (h : LineSafe s) (hx : s.xport.seq = .mark) : LineSafe (stepMark s) := by
  unfold Machine.stepMark
  split
  · exact (h.lineQuiet ‹_› (h.rate_normal (by simp [hx]))).nextAfterWake (h.transmitting (.inr (.inl hx)))
      (h.not_engineAlone (by simp [hx]))
  · exact h

/-- A character starts in Transmitting; after the last one the line is quiet (R179). -/
theorem LineSafe.stepWrite {s : State} (h : LineSafe s) (hx : s.xport.seq = .write) : LineSafe (stepWrite s) := by
  have hengine : ¬ EngineAlone s.engine.seq := h.not_engineAlone (by simp [hx])
  have hmode : s.line.mode = .transmitting := h.transmitting (.inr (.inr hx))
  have hrx : s.line.rx ≠ .off := h.opened (by simp [hmode])
  have hrate : s.line.rate = .normal := h.rate_normal (by simp [hx])
  unfold Machine.stepWrite
  repeat' split
  · exact lineSafe_of_sending hmode hrx (.inr (.inr hx)) (fun hr => by simp [txStart, hrate] at hr) hengine
  · rename_i htx _
    have hquiet : LineQuiet (resetInput s.line) :=
      ⟨fun hclosed => by simp [resetInput, hmode] at hclosed, fun _ => hrx, htx, hrate⟩
    exact LineQuiet.lineSafe_of_any_mode hquiet (.inr (.inr rfl)) fun ha => absurd ha hengine
  · exact h

theorem LineSafe.stepLstart {s : State} (h : LineSafe s) (hx : s.xport.seq = .lstart) : LineSafe (stepLstart s) := by
  have hquiet : LineQuiet (setModeLine .listening s.line) :=
    (h.lineQuiet_of_not_sending (by simp [Sending, hx])).setModeLine _
  refine LineQuiet.lineSafe hquiet (fun hsend => ?_) (fun _ => setModeLine_mode _ _)
    fun ha => absurd ha (h.not_engineAlone (by simp [hx]))
  rcases hsend with hs | hs | hs <;> cases hs

theorem LineSafe.stepListen {s : State} (h : LineSafe s) (hx : s.xport.seq = .listen) : LineSafe (stepListen s) := by
  have hmode : s.line.mode = .listening := h.listening hx
  have hquiet : LineQuiet s.line := h.lineQuiet_of_not_sending (by simp [Sending, hx])
  unfold Machine.stepListen
  split
  · exact { h with closed := fun hclosed => by simp [hmode] at hclosed }
  · split
    · exact LineQuiet.lineSafe_of_any_mode (by rwa [endListen_line]) (.inl (by rw [endListen_xport]))
        fun _ => by rw [endListen_xport]
    · exact { h with }

theorem LineSafe.transportStep {s : State} (h : LineSafe s) : LineSafe (transportStep s) := by
  unfold Machine.transportStep
  cases hx : s.xport.seq with
  | idle => exact h
  | wake => exact h.stepWake hx
  | brk => exact h.stepBreak hx
  | mark => exact h.stepMark hx
  | write => exact h.stepWrite hx
  | lstart => exact h.stepLstart hx
  | listen => exact h.stepListen hx

/-! ### The engine -/

/-- What an engine step does to the transport: it leaves it as it is, or starts it and waits for it in a check state. -/
def EngineHandsOver (s t : State) : Prop :=
  t.xport = s.xport ∨ ((t.xport.seq = .wake ∨ t.xport.seq = .lstart) ∧ ¬ EngineAlone t.engine.seq)

theorem stepStart_handsOver (s : State) : EngineHandsOver s (stepStart s) := by
  unfold stepStart
  dsimp only
  split <;> exact .inl rfl

theorem stepIssueSend_handsOver (s : State) : EngineHandsOver s (stepIssueSend s) := by
  unfold stepIssueSend
  split
  · exact .inl rfl
  · exact .inr ⟨.inl rfl, by simp [EngineAlone]⟩

theorem stepIssueCheck_handsOver (s : State) : EngineHandsOver s (stepIssueCheck s) := by
  unfold stepIssueCheck
  dsimp only
  split <;> exact .inl rfl

theorem stepReadyListen_handsOver (s : State) : EngineHandsOver s (stepReadyListen s) := by
  unfold stepReadyListen
  split
  · exact .inl rfl
  · exact .inr ⟨.inr rfl, by simp [EngineAlone]⟩

theorem stepReadyCheck_handsOver (s : State) : EngineHandsOver s (stepReadyCheck s) := by
  unfold stepReadyCheck
  dsimp only
  split <;> exact .inl rfl

theorem stepDataSend_handsOver (s : State) : EngineHandsOver s (stepDataSend s) := by
  have hfail : (failBlock s).xport = s.xport := by
    unfold failBlock
    split <;> rfl
  unfold stepDataSend
  repeat' split
  · exact .inl rfl
  · exact .inl hfail
  · exact .inl hfail
  · refine .inr ⟨.inl rfl, ?_⟩
    unfold setBlkTries
    split <;> simp [EngineAlone]

theorem stepDataCheck_handsOver (s : State) : EngineHandsOver s (stepDataCheck s) := by
  unfold stepDataCheck storeFields
  dsimp only
  repeat' split
  all_goals exact .inl rfl

theorem stepConvert_handsOver (s : State) : EngineHandsOver s (stepConvert s) := by
  unfold stepConvert setBank
  repeat' split
  all_goals exact .inl rfl

/-- The engine waits, or it has the transport to itself and hands over a transport it may have started. -/
theorem engineStep_handsOver (xIdle : Bool) (s : State) :
    engineStep xIdle s = s ∨
    ((EngineAlone s.engine.seq ∨ xIdle = true) ∧ EngineHandsOver s (engineStep xIdle s)) := by
  unfold engineStep
  cases s.engine.seq with
  | idle => exact .inl rfl
  | start => exact .inr ⟨by simp [EngineAlone], stepStart_handsOver s⟩
  | issueSend => exact .inr ⟨by simp [EngineAlone], stepIssueSend_handsOver s⟩
  | issueCheck =>
    cases xIdle
    · exact .inl rfl
    · exact .inr ⟨.inr rfl, stepIssueCheck_handsOver s⟩
  | readyListen => exact .inr ⟨by simp [EngineAlone], stepReadyListen_handsOver s⟩
  | readyCheck =>
    cases xIdle
    · exact .inl rfl
    · exact .inr ⟨.inr rfl, stepReadyCheck_handsOver s⟩
  | dataSend => exact .inr ⟨by simp [EngineAlone], stepDataSend_handsOver s⟩
  | dataCheck =>
    cases xIdle
    · exact .inl rfl
    · exact .inr ⟨.inr rfl, stepDataCheck_handsOver s⟩
  | convert => exact .inr ⟨by simp [EngineAlone], stepConvert_handsOver s⟩
  | finish => exact .inr ⟨by simp [EngineAlone], .inl rfl⟩

/-- The engine acts only on an idle transport, so the line is quiet when it hands the transport over. -/
theorem LineSafe.engineStep {s : State} (h : LineSafe s) {xIdle : Bool}
    (hidle : xIdle = true → s.xport.seq = .idle) : LineSafe (engineStep xIdle s) := by
  rcases engineStep_handsOver xIdle s with hwait | ⟨hturn, hover⟩
  · rwa [hwait]
  · have hx : s.xport.seq = .idle := hturn.elim h.engineAlone hidle
    have hquiet : LineQuiet (Machine.engineStep xIdle s).line :=
      engineStep_line xIdle s ▸ h.lineQuiet_of_not_sending (by simp [Sending, hx])
    rcases hover with hsame | ⟨hstart, hnot⟩
    · rw [← hsame] at hx
      exact hquiet.lineSafe_of_any_mode (.inl hx) fun _ => hx
    · exact hquiet.lineSafe_of_any_mode (.inr hstart) fun ha => absurd ha hnot

/-! ### The UART -/

/-- A transmitter that is idle stays idle, so one cycle of it puts nothing new in flight. -/
theorem LineSafe.uartTx {s : State} (h : LineSafe s) (s0 : State) : LineSafe (uartTx s0 s) := by
  rcases uartTx_cases s0 s with ⟨htx, hs⟩ | ⟨-, hs⟩ <;> rw [hs]
  · refine { h with closed := fun hclosed => ?_, inFlight := fun hflight => h.inFlight fun hidle => hflight ?_ }
    · obtain ⟨hrx, hrxq, hovr, hidle, hrate⟩ := h.closed hclosed
      exact ⟨hrx, hrxq, hovr, by simp [← htx, hidle], hrate⟩
    · simp [← htx, hidle]
  · exact h

theorem deliver_keeps (p : Params) (len : Nat) (x : Byte) (l : Line) :
    (deliver p len x l).mode = l.mode ∧ (deliver p len x l).rx = l.rx ∧ (deliver p len x l).tx = l.tx ∧
    (deliver p len x l).rate = l.rate := by
  rcases deliver_cases p len x l with ⟨-, hd⟩ | ⟨-, hd⟩ <;> simp [hd]

/-- A receiver that is off stays off and delivers nothing; one that is on stays on (R227). -/
theorem LineSafe.uartRx {s : State} (h : LineSafe s) (level : Bool) (s0 : State) : LineSafe (uartRx level s0 s) := by
  rcases uartRx_cases level s0 s with ⟨-, hs⟩ | ⟨hrx, hs⟩ | ⟨c, hrx, hc, hs⟩ <;> rw [hs]
  · exact h
  · refine { h with closed := fun hclosed => ?_, opened := fun hopen => ?_ }
    · obtain ⟨hoff, hrest⟩ := h.closed hclosed
      exact ⟨by simp [← hrx, hoff, rxNext_off], hrest⟩
    · exact hrx ▸ rxNext_ne_off _ _ _ _ (h.opened hopen)
  · obtain ⟨hmode, hrx', htx, hrate⟩ := deliver_keeps s.params s0.line.rxq.length (byteOf c)
      { s.line with rx := (rxNext s.params s0.line.rate level s0.line.rx).rx }
    have hopen : s.line.mode ≠ .disabled := fun hclosed => by
      obtain ⟨hoff, -⟩ := h.closed hclosed
      simp [← hrx, hoff, rxNext_off] at hc
    exact
      { closed := fun hclosed => absurd (hmode ▸ hclosed) hopen
        opened := fun _ => by
          rw [hrx', ← hrx]
          exact rxNext_ne_off _ _ _ _ (h.opened hopen)
        transmitting := fun hx => hmode ▸ h.transmitting hx
        listening := fun hx => hmode ▸ h.listening hx
        inFlight := fun hflight => h.inFlight (htx ▸ hflight)
        breakRate := fun hslow => h.breakRate (hrate ▸ hslow)
        engineAlone := h.engineAlone }

/-! ### The cycle -/

theorem LineSafe.transportPhase {s : State} (h : LineSafe s) (s0 : State) : LineSafe (transportPhase s0 s) := by
  unfold Machine.transportPhase
  split
  · exact h
  · exact h.transportStep

/-- When step 1 left the sequencers of a busy block, the engine is told of the transport as step 2a leaves it idle (R80, R267). -/
theorem LineSafe.enginePhase {s0 s1 : State} (h : LineSafe s1) (hseq : busy s0 = true → s1.xport = s0.xport) :
    LineSafe (enginePhase s0 (Machine.transportPhase s0 s1)) := by
  unfold Machine.enginePhase
  split
  · exact h.transportPhase s0
  · rename_i hengine
    refine (h.transportPhase s0).engineStep fun hidle => ?_
    have hx0 : s0.xport.seq = .idle := by simpa using hidle
    have hbusy : busy s0 = true := by simp [busy, pbusy, hengine]
    rw [Machine.transportPhase, if_pos hx0, hseq hbusy, hx0]

theorem LineSafe.clockEdge {s0 s1 : State} (h : LineSafe s1) (hseq : busy s0 = true → s1.xport = s0.xport) :
    LineSafe (clockEdge s0 s1) :=
  { ((h.enginePhase hseq).uartTx s0).uartRx (rxdNow s0) s0 with }

/-- Reset leaves the line closed, with nothing in flight and both sequencers idle (R40, R370). -/
theorem reset_lineSafe (p : Params) : LineSafe { State.reset with params := p } := by
  constructor <;> simp [State.reset]

theorem resetCycle_lineSafe (s : State) : LineSafe (resetCycle s) :=
  { reset_lineSafe s.params with }

end Sys2Proof.Machine

open Sys2Proof Sys2Proof.Machine

/-- Settles O57: step 1 leaves the sequencers of a busy block alone, and the transport, the engine and the UART each keep the
agreement. -/
theorem stepKeepsLineSafe : Obligations.StepKeepsLineSafe := by
  intro s t h hstep
  rcases step_cases hstep with ⟨-, rfl⟩ | ⟨-, -, rfl⟩ | ⟨a, u, -, -, hu, rfl⟩
  · exact resetCycle_lineSafe s
  · exact h.clockEdge fun _ => rfl
  · refine (hostAccess_lineSafe h hu).clockEdge fun hb => ?_
    obtain ⟨hxport, -⟩ := hostAccess_busy_sequencers hb hu
    exact hxport

end

section
/-! ## The digits of a reply -/

namespace Sys2Proof.Machine

theorem decVal_concat (d : List Byte) (x : Byte) : decVal (d ++ [x]) = 10 * decVal d + dig x := by
  simp [decVal]

theorem isDigit_iff {x : Byte} : isDigit x = true ↔ 0x30 ≤ x.toNat ∧ x.toNat ≤ 0x39 := by
  simp [isDigit]

theorem dig_le_nine {x : Byte} (h : isDigit x = true) : dig x ≤ 9 := by
  rw [isDigit_iff] at h
  unfold dig
  omega

/-- A string of `n` digits stands for a number below `10^n` (R300). -/
theorem decVal_lt_pow {d : List Byte} (h : ∀ x ∈ d, isDigit x = true) : decVal d < 10 ^ d.length := by
  induction d using List.reverseRecOn with
  | nil => simp [decVal]
  | append_singleton d x ih =>
    have hd : decVal d < 10 ^ d.length := ih fun y hy => h y (by simp [hy])
    have hx : dig x ≤ 9 := dig_le_nine (h x (by simp))
    rw [decVal_concat, List.length_append, List.length_singleton, pow_succ]
    omega

/-- A slice of three bytes that the sequence has. -/
theorem slice_three (r : List Byte) (i : Nat) (h : i + 3 ≤ r.length) :
    slice r i (i + 3) = [at' r i, at' r (i + 1), at' r (i + 2)] := by
  have hget : ∀ k, i + k < r.length → r[i + k]? = some (at' r (i + k)) := fun k hk => by
    simp [at', List.getD_eq_getElem?_getD, hk]
  unfold slice
  apply List.ext_getElem?
  intro n
  rw [List.getElem?_drop, List.getElem?_take]
  match n with
  | 0 => simpa using hget 0 (by omega)
  | 1 => simpa using hget 1 (by omega)
  | 2 => simpa using hget 2 (by omega)
  | n + 3 => simp

/-- An admitted service-request reply names a time of at most 999 s and a count from 1 to 9 (R301, R34). -/
theorem parseSrq_bounds {r : List Byte} {a : Byte} {ttt n : Nat} (h : parseSrq r = some (a, ttt, n)) :
    ttt ≤ 999 ∧ 1 ≤ n ∧ n ≤ 9 := by
  unfold parseSrq at h
  dsimp only at h
  split at h
  · cases h
  split at h
  · cases h
  split at h
  · cases h
  split at h
  · rename_i hlen _ hdigits hcount
    cases h
    have hslice : slice r (r.length - 6) (r.length - 3) =
        [at' r (r.length - 6), at' r (r.length - 5), at' r (r.length - 4)] := by
      have h3 := slice_three r (r.length - 6) (by omega)
      rwa [show r.length - 6 + 3 = r.length - 3 by omega, show r.length - 6 + 1 = r.length - 5 by omega,
        show r.length - 6 + 2 = r.length - 4 by omega] at h3
    simp only [Bool.not_eq_false, Bool.and_eq_true] at hdigits
    obtain ⟨⟨hd0, hd1⟩, hd2⟩ := hdigits
    have hlt : decVal (slice r (r.length - 6) (r.length - 3)) < 10 ^ 3 := by
      rw [hslice]
      exact decVal_lt_pow (by simp [hd0, hd1, hd2])
    unfold dig
    omega
  · cases h

end Sys2Proof.Machine

end

section
/-! ## The codes, counts and limits in range, kept by every step -/

namespace Sys2Proof.Machine

/-! ### One update, one reasoning rule -/

/-- One more attempt below its limit reaches at most the limit (R265). -/
theorem attempts_succ_le {tries limit : BitVec 4} (h : ¬ limit.toNat ≤ tries.toNat) :
    (tries + 1).toNat ≤ limit.toNat := by
  have hlimit := limit.isLt
  have hone : (1 : BitVec 4).toNat = 1 := rfl
  rw [BitVec.toNat_add, hone]
  omega

/-- The result code of an exhausted block: 4 for block 0, 5 for block 1 (R258, R345). -/
theorem resultCode_block {b : Nat} (h : b < 2) : ResultCode (4 + BitVec.ofNat 4 b) := by
  match b with
  | 0 => exact .inr (.inr (.inr (.inl rfl)))
  | 1 => exact .inr (.inr (.inr (.inr rfl)))

/-- Outside the data phase nothing ties the field count to the block index. -/
theorem CodeSafe.setPseq {s : State} (h : CodeSafe s) {q : PSeq} (hsend : q ≠ .dataSend) (hcheck : q ≠ .dataCheck) :
    CodeSafe (setPseq q s) :=
  { h with
    dueBlock := fun hq => absurd hq hcheck
    count := fun hq => hq.elim (fun hq => absurd hq hsend) (fun hq => absurd hq hcheck) }

theorem CodeSafe.setPhase {s : State} (h : CodeSafe s) {k : BitVec 3} (hk : k.toNat ≤ 5) :
    CodeSafe (setPhase k s) :=
  { h with phase := hk }

theorem CodeSafe.finishWith {s : State} (h : CodeSafe s) {k : BitVec 4} (hk : ResultCode k) :
    CodeSafe (finishWith k s) :=
  { h.setPseq (q := .finish) PSeq.noConfusion PSeq.noConfusion with engineResult := hk }

theorem CodeSafe.collect {s : State} (h : CodeSafe s) : CodeSafe (collect s) :=
  { h with }

theorem CodeSafe.startSend {s : State} (h : CodeSafe s) (p : List Byte) : CodeSafe (startSend p s) :=
  { h with }

theorem CodeSafe.startListen {s : State} (h : CodeSafe s) (ms : Nat) : CodeSafe (startListen ms s) :=
  { h with }

/-- The data phase starts with block 0 and no field (R257). -/
theorem CodeSafe.gotoData {s : State} (h : CodeSafe s) : CodeSafe (gotoData s) :=
  { h.setPhase (k := 3) (by decide) with
    block := Nat.zero_le 2
    fieldCount := Nat.zero_le 6
    dueBlock := fun _ => Nat.zero_le 1
    count := fun _ => rfl }

/-- A block adds its three fields, so the count stays three times the index (R258). -/
theorem CodeSafe.nextBlock {s : State} (h : CodeSafe s) (hb : s.engine.b ≤ 1)
    (hcount : s.engine.count = 3 * s.engine.b) : CodeSafe (nextBlock s) := by
  have hnext : s.engine.count + 3 = 3 * (s.engine.b + 1) := by omega
  refine { h with phase := ?_, block := Nat.succ_le_succ hb, fieldCount := ?_, dueBlock := ?_, count := ?_ }
  · unfold Machine.nextBlock
    rw [setPhase_poll]
    dsimp only
    split <;> decide
  · show s.engine.count + 3 ≤ 6
    omega
  · exact fun hq => PSeq.noConfusion hq
  · exact fun _ => hnext

theorem CodeSafe.failBlock {s : State} (h : CodeSafe s) : CodeSafe (failBlock s) := by
  unfold Machine.failBlock
  split <;> exact { h with }

/-- Marking a block as failed moves neither the block index nor the count. -/
theorem failBlock_counts (s : State) :
    (failBlock s).engine.b = s.engine.b ∧ (failBlock s).engine.count = s.engine.count := by
  unfold failBlock
  split <;> exact ⟨rfl, rfl⟩

theorem CodeSafe.setBlkTries {s : State} (h : CodeSafe s) {n : BitVec 4} (hn : n.toNat ≤ s.engine.ba.toNat) :
    CodeSafe (setBlkTries n s) := by
  unfold Machine.setBlkTries
  split
  · exact { h with blk0Tries := hn }
  · exact { h with blk1Tries := hn }

theorem CodeSafe.storeFields {s : State} (h : CodeSafe s) (f0 f1 f2 : List Byte) :
    CodeSafe (storeFields f0 f1 f2 s) := by
  unfold Machine.storeFields
  split <;> exact { h with }

theorem storeFields_counts (f0 f1 f2 : List Byte) (s : State) :
    (storeFields f0 f1 f2 s).engine.b = s.engine.b ∧ (storeFields f0 f1 f2 s).engine.count = s.engine.count := by
  unfold storeFields
  split <;> exact ⟨rfl, rfl⟩

theorem CodeSafe.setBank {s : State} (h : CodeSafe s) (k : BitVec 2) (d : Bank) : CodeSafe (setBank k d s) := by
  unfold Machine.setBank
  repeat' split
  · exact { h with }
  · exact { h with }
  · exact h

/-! ### The host access -/

/-- A rejection writes a cause from 1 to 4 with CMD_ERR set (R341). -/
theorem CodeSafe.reject {s : State} (h : CodeSafe s) {k : BitVec 3} (hk : k.toNat ≤ 4) : CodeSafe (reject k s) :=
  { h with noError := fun hf => Bool.noConfusion hf, cause := hk }

theorem CodeSafe.clearReject {s : State} (h : CodeSafe s) : CodeSafe (clearReject s) :=
  { h with noError := fun _ => rfl, cause := Nat.zero_le 4 }

theorem SingleCycleEffect.codeSafe {a : BusAccess} {s t : State} (e : SingleCycleEffect a s t) (h : CodeSafe s) :
    CodeSafe t := by
  cases e with
  | setactive =>
    unfold setactiveEffect
    split <;> exact { h with }
  | _ => exact { h with }

/-- POLL clears every count before it latches new limits (R251). -/
theorem CodeSafe.pollEffect {s : State} (h : CodeSafe s) (k : BitVec 2) (x : Byte) : CodeSafe (pollEffect k x s) :=
  { h.setPseq (q := .start) PSeq.noConfusion PSeq.noConfusion with
    phase := Nat.zero_le 5
    result := .inl rfl
    issueTries := Nat.zero_le _
    blk0Tries := Nat.zero_le _
    blk1Tries := Nat.zero_le _
    srq := fun hv => Bool.noConfusion hv }

theorem AcceptanceEffect.codeSafe {s t : State} (e : AcceptanceEffect s t) (h : CodeSafe s) : CodeSafe t := by
  cases e with
  | poll k x => exact h.pollEffect k x
  | _ => exact { h with }

theorem hostAccess_codeSafe {a : BusAccess} {s u : State} (h : CodeSafe s) (hu : hostAccess a s = .next u) :
    CodeSafe u := by
  rcases hostAccess_cases hu with ⟨k, ⟨-, hk⟩, rfl⟩ | ⟨-, e⟩ | ⟨-, e⟩ | ⟨r, rfl⟩ | ⟨-, r, rfl⟩ | rfl | ⟨r, rfl⟩ | rfl
  · exact h.reject hk
  · exact e.codeSafe h
  · exact e.codeSafe h
  · exact { h with }
  · exact { h with }
  · exact h.clearReject
  · exact { h with }
  · exact h

/-! ### The engine -/

theorem CodeSafe.stepStart {s : State} (h : CodeSafe s) : CodeSafe (stepStart s) := by
  unfold Machine.stepStart
  dsimp only
  split
  · exact { h.finishWith (.inr (.inl rfl)) with }
  · exact { (h.setPseq (q := .issueSend) PSeq.noConfusion PSeq.noConfusion).setPhase (k := 1) (by decide) with }

/-- The attempt is counted only below its limit (R253, R265). -/
theorem CodeSafe.stepIssueSend {s : State} (h : CodeSafe s) : CodeSafe (stepIssueSend s) := by
  unfold Machine.stepIssueSend
  split
  · exact h.finishWith (.inr (.inr (.inl rfl)))
  · exact { h.setPseq (q := .issueCheck) PSeq.noConfusion PSeq.noConfusion with
      issueTries := attempts_succ_le ‹_› }

/-- SRQ takes what PARSE_SRQ admits (R255, R301). -/
theorem CodeSafe.stepIssueCheck {s : State} (h : CodeSafe s) : CodeSafe (stepIssueCheck s) := by
  unfold Machine.stepIssueCheck
  dsimp only
  split
  · exact h.collect.setPseq PSeq.noConfusion PSeq.noConfusion
  · rename_i a ttt n hparse
    obtain ⟨httt, hn1, hn9⟩ := parseSrq_bounds hparse
    refine { (h.setPseq (q := .readyListen) PSeq.noConfusion PSeq.noConfusion).setPhase (k := 2) (by decide) with
      srq := fun _ => ?_ }
    simp only [setPhase_srq, BitVec.toNat_ofNat]
    omega

theorem CodeSafe.stepReadyListen {s : State} (h : CodeSafe s) : CodeSafe (stepReadyListen s) := by
  unfold Machine.stepReadyListen
  split
  · exact h.gotoData
  · exact (h.startListen _).setPseq PSeq.noConfusion PSeq.noConfusion

theorem CodeSafe.stepReadyCheck {s : State} (h : CodeSafe s) : CodeSafe (stepReadyCheck s) := by
  unfold Machine.stepReadyCheck
  dsimp only
  split
  · exact { h.collect.gotoData with }
  · exact h.collect.setPseq PSeq.noConfusion PSeq.noConfusion

/-- A block is due only below MAX_BLOCKS, and its attempt is counted only below its limit (R258, R265). -/
theorem CodeSafe.stepDataSend {s : State} (h : CodeSafe s) (hseq : s.engine.seq = .dataSend) :
    CodeSafe (stepDataSend s) := by
  have hcount : s.engine.count = 3 * s.engine.b := h.count (.inl hseq)
  unfold Machine.stepDataSend
  split
  · exact (h.setPseq PSeq.noConfusion PSeq.noConfusion).setPhase (by decide)
  · rename_i hdue
    have hb : s.engine.b < 2 := Nat.lt_of_not_le fun hb => hdue (.inr hb)
    split
    · split
      · exact h.failBlock.finishWith (resultCode_block hb)
      · obtain ⟨hb', hc'⟩ := failBlock_counts s
        exact h.failBlock.nextBlock (by omega) (by omega)
    · have hattempt : CodeSafe
          { s with engine := { s.engine with tries := s.engine.tries + 1, seq := .dataCheck } } :=
        { h with dueBlock := fun _ => Nat.le_of_lt_succ hb, count := fun _ => hcount }
      exact (hattempt.setBlkTries (attempts_succ_le ‹_›)).startSend _

theorem CodeSafe.stepDataCheck {s : State} (h : CodeSafe s) (hseq : s.engine.seq = .dataCheck) :
    CodeSafe (stepDataCheck s) := by
  have hb : s.engine.b ≤ 1 := h.dueBlock hseq
  have hcount : s.engine.count = 3 * s.engine.b := h.count (.inr hseq)
  unfold Machine.stepDataCheck
  dsimp only
  split
  · exact { h with dueBlock := fun hq => PSeq.noConfusion hq, count := fun _ => hcount }
  · rename_i f0 f1 f2 _
    obtain ⟨hb', hc'⟩ := storeFields_counts f0 f1 f2 (Machine.collect s)
    exact (h.collect.storeFields f0 f1 f2).nextBlock (hb' ▸ hb) (by rw [hb', hc']; exact hcount)

theorem CodeSafe.stepConvert {s : State} (h : CodeSafe s) : CodeSafe (stepConvert s) := by
  unfold Machine.stepConvert
  split
  · exact (h.setBank _ _).finishWith (.inl rfl)
  · have hncf : CodeSafe { s with poll := { s.poll with ncf := true } } := { h with }
    exact (hncf.setBank _ _).finishWith (.inl rfl)

/-- RESULT takes the engine's result code (R263). -/
theorem CodeSafe.stepFinish {s : State} (h : CodeSafe s) : CodeSafe (stepFinish s) :=
  { h.setPseq (q := .idle) PSeq.noConfusion PSeq.noConfusion with
    phase := Nat.zero_le 5
    result := h.engineResult }

theorem CodeSafe.engineStep {s : State} (h : CodeSafe s) (xIdle : Bool) : CodeSafe (engineStep xIdle s) := by
  unfold Machine.engineStep
  cases hseq : s.engine.seq with
  | idle => exact h
  | start => exact h.stepStart
  | issueSend => exact h.stepIssueSend
  | issueCheck =>
    cases xIdle
    · exact h
    · exact h.stepIssueCheck
  | readyListen => exact h.stepReadyListen
  | readyCheck =>
    cases xIdle
    · exact h
    · exact h.stepReadyCheck
  | dataSend => exact h.stepDataSend hseq
  | dataCheck =>
    cases xIdle
    · exact h
    · exact h.stepDataCheck hseq
  | convert => exact h.stepConvert
  | finish => exact h.stepFinish

/-! ### The cycle -/

/-- The transport moves none of the codes. -/
theorem CodeSafe.transportPhase {s : State} (h : CodeSafe s) (s0 : State) : CodeSafe (transportPhase s0 s) := by
  unfold Machine.transportPhase
  split
  · exact h
  · constructor <;> simp only [transportStep_err, transportStep_poll, transportStep_engine, transportStep_srq]
    exacts [h.noError, h.cause, h.phase, h.result, h.engineResult, h.block, h.fieldCount, h.dueBlock, h.count,
      h.issueTries, h.blk0Tries, h.blk1Tries, h.srq]

theorem CodeSafe.enginePhase {s : State} (h : CodeSafe s) (s0 : State) : CodeSafe (enginePhase s0 s) := by
  unfold Machine.enginePhase
  split
  · exact h
  · exact h.engineStep _

/-- The UART and the end of the cycle move none of the codes. -/
theorem CodeSafe.clockEdge {s1 : State} (h : CodeSafe s1) (s0 : State) : CodeSafe (clockEdge s0 s1) := by
  have hseq := (h.transportPhase s0).enginePhase s0
  unfold Machine.clockEdge
  dsimp only
  obtain ⟨tx, rx, rxq, ovr, huart⟩ :=
    uart_frame (rxdNow s0) s0 (Machine.enginePhase s0 (Machine.transportPhase s0 s1))
  rw [huart]
  exact { hseq with }

/-- Reset leaves every code, count and limit 0 (R40, R370). -/
theorem reset_codeSafe (p : Params) : CodeSafe { State.reset with params := p } := by
  constructor <;> simp [State.reset, pollClear, srqClear, ResultCode]

theorem resetCycle_codeSafe (s : State) : CodeSafe (resetCycle s) :=
  { reset_codeSafe s.params with }

end Sys2Proof.Machine

open Sys2Proof Sys2Proof.Machine

/-- Settles O59: only the host access and the engine write a code, and each writes one in range. -/
theorem stepKeepsCodeSafe : Obligations.StepKeepsCodeSafe := by
  intro s t h hstep
  rcases step_cases hstep with ⟨-, rfl⟩ | ⟨-, -, rfl⟩ | ⟨a, u, -, -, hu, rfl⟩
  · exact resetCycle_codeSafe s
  · exact h.clockEdge s
  · exact (hostAccess_codeSafe h hu).clockEdge s

end

section
/-! ## A field's number and the length of its text -/

namespace Sys2Proof.Machine

/-! ### The parts of a numeric field -/

theorem sign_parts (f : List Byte) :
    ∃ sign : List Byte, f = sign ++ (if hasSign f then f.drop 1 else f) ∧
      (sign = [] ∨ sign = [0x2B] ∨ sign = [0x2D]) ∧ isNegative f = decide (sign = [0x2D]) := by
  cases f with
  | nil => exact ⟨[], rfl, .inl rfl, rfl⟩
  | cons x t =>
    by_cases hplus : x = 0x2B#8
    · subst hplus
      exact ⟨[0x2B], by simp [hasSign], .inr (.inl rfl), by simp [isNegative]⟩
    · by_cases hminus : x = 0x2D#8
      · subst hminus
        exact ⟨[0x2D], by simp [hasSign], .inr (.inr rfl), by simp [isNegative]⟩
      · exact ⟨[], by simp [hasSign, hplus, hminus], .inl rfl, by simp [isNegative, hminus]⟩

theorem fraction_parts (rest : List Byte) :
    ∃ point : List Byte, rest = point ++ (fraction rest).1 ++ (fraction rest).2 ∧
      (point = [0x2E] ∨ (point = [] ∧ (fraction rest).1 = [])) ∧
      ∀ x ∈ (fraction rest).1, isDigit x = true := by
  cases rest with
  | nil => exact ⟨[], rfl, .inr ⟨rfl, rfl⟩, by simp [fraction]⟩
  | cons x t =>
    by_cases hx : x = 0x2E#8
    · subst hx
      refine ⟨[0x2E], ?_, .inl rfl, fun y hy => ?_⟩
      · simp [fraction, List.takeWhile_append_dropWhile]
      · simp only [fraction] at hy
        exact List.mem_takeWhile_imp hy
    · exact ⟨[], by simp [fraction, hx], .inr ⟨rfl, by simp [fraction, hx]⟩, by simp [fraction, hx]⟩

/-- A field that NUMERIC admits is a sign, digits, a point and digits, and nothing else (R303). -/
theorem numeric_parts {f : List Byte} {v : Value} (h : numeric f = some v) :
    ∃ sign d1 point d2 : List Byte,
      f = sign ++ d1 ++ point ++ d2 ∧ (sign = [] ∨ sign = [0x2B] ∨ sign = [0x2D]) ∧
      (point = [0x2E] ∨ (point = [] ∧ d2 = [])) ∧ (∀ x ∈ d1 ++ d2, isDigit x = true) ∧ d1 ++ d2 ≠ [] ∧
      v = ⟨decide (sign = [0x2D]), decVal (d1 ++ d2), d2.length⟩ := by
  obtain ⟨sign, hsign, hsigns, hneg⟩ := sign_parts f
  unfold numeric at h
  dsimp only at h
  generalize (if hasSign f then f.drop 1 else f) = body at h hsign
  obtain ⟨point, hpoint, hpoints, hdigits⟩ := fraction_parts (body.dropWhile isDigit)
  split at h
  · cases h
  · rename_i hall
    rw [not_or, not_not] at hall
    obtain ⟨hleft, hsome⟩ := hall
    rw [hleft, List.append_nil] at hpoint
    refine ⟨sign, body.takeWhile isDigit, point, (fraction (body.dropWhile isDigit)).1, ?_, hsigns, hpoints,
      fun x hx => ?_, fun hnil => hsome ?_, ?_⟩
    · rw [List.append_assoc, List.append_assoc, ← hpoint, List.takeWhile_append_dropWhile, ← hsign]
    · exact (List.mem_append.mp hx).elim List.mem_takeWhile_imp (hdigits x)
    · rw [← List.length_append, hnil, List.length_nil]
    · rw [← hneg]
      exact (Option.some.inj h).symm

/-! ### The decimal texts -/

theorem decimalFuel_length_le {fuel n k : Nat} (hk : 1 ≤ k) (h : n < 10 ^ k) : (decimalFuel fuel n).length ≤ k := by
  induction fuel generalizing n k with
  | zero => exact hk
  | succ fuel ih =>
    unfold decimalFuel
    split
    · exact hk
    · obtain ⟨j, rfl⟩ : ∃ j, k = j + 1 := ⟨k - 1, by omega⟩
      have hj : 1 ≤ j := by
        by_contra hj
        obtain rfl : j = 0 := by omega
        omega
      have hdiv : n / 10 < 10 ^ j := Nat.div_lt_of_lt_mul (by rwa [pow_succ, mul_comm] at h)
      simpa using ih hj hdiv

/-- A number below `10^k` has at most `k` digits (R308). -/
theorem decimalText_length_le {n k : Nat} (hk : 1 ≤ k) (h : n < 10 ^ k) : (decimalText n).length ≤ k :=
  decimalFuel_length_le hk h

@[simp] theorem fixedText_length (k n : Nat) : (fixedText k n).length = k := by
  induction k generalizing n with
  | zero => rfl
  | succ k ih => simp [fixedText, ih]

theorem trimZeros_length_le (fs : List Byte) : (trimZeros fs).length ≤ max 1 fs.length := by
  unfold trimZeros
  split
  · simp
  · have hdrop := (List.dropWhile_sublist (fun x : Byte => x == 0x30) (l := fs.reverse)).length_le
    rw [List.length_reverse] at hdrop ⊢
    exact hdrop.trans (Nat.le_max_right _ _)

/-- The text is the sign, the integer part, the point and the fraction (R308). -/
theorem formatValue_length_le {v : Value} {k : Nat} (hk : 1 ≤ k) (h : v.mant < 10 ^ (k + v.scale)) :
    (formatValue v).length ≤ v.neg.toNat + k + 1 + max 1 v.scale := by
  have hint : (decimalText (v.mant / 10 ^ v.scale)).length ≤ k :=
    decimalText_length_le hk (Nat.div_lt_of_lt_mul (by rwa [mul_comm, ← pow_add]))
  have hfrac := trimZeros_length_le (fixedText v.scale (v.mant % 10 ^ v.scale))
  rw [fixedText_length] at hfrac
  have hsign : (if v.neg then [0x2D] else [] : List Byte).length = v.neg.toNat := by cases v.neg <;> rfl
  simp only [formatValue, List.length_append, List.length_singleton, hsign]
  omega

/-- A value's text grows a field of at most 8 bytes to at most 10: a digit before the point and `.0` after it (R303, R308). -/
theorem formatValue_length_of_numeric {f : List Byte} {v : Value} (hf : f.length ≤ 8) (h : numeric f = some v) :
    (formatValue v).length ≤ 10 := by
  obtain ⟨sign, d1, point, d2, rfl, hsign, hpoint, hdigits, hsome, rfl⟩ := numeric_parts h
  have hmant : decVal (d1 ++ d2) < 10 ^ (max 1 d1.length + d2.length) :=
    (decVal_lt_pow hdigits).trans_le (Nat.pow_le_pow_right (by decide) (by rw [List.length_append]; omega))
  have hlen := formatValue_length_le (v := ⟨decide (sign = [0x2D]), decVal (d1 ++ d2), d2.length⟩)
    (Nat.le_max_left 1 d1.length) hmant
  have hneg : (decide (sign = [0x2D])).toNat ≤ sign.length := by
    rcases hsign with rfl | rfl | rfl <;> decide
  have hparts : d2.length = 0 ∨ point.length = 1 := hpoint.elim (fun hp => .inr (by simp [hp])) fun hp => .inl (by simp [hp])
  have hdigit : d1.length + d2.length ≠ 0 := by rwa [← List.length_append, ne_eq, List.length_eq_zero_iff]
  simp only [List.length_append] at hf
  dsimp only at hlen
  omega

theorem formatRaw_length_le {a : Byte} {v : Six Value} (h : ∀ j, (formatValue (six v j)).length ≤ 10) :
    (formatRaw a v).length ≤ 67 := by
  have h0 := h 0
  have h1 := h 1
  have h2 := h 2
  have h3 := h 3
  have h4 := h 4
  have h5 := h 5
  simp only [six] at h0 h1 h2 h3 h4 h5
  simp only [formatRaw, List.length_append, List.length_singleton]
  omega

end Sys2Proof.Machine

end

section
/-! ## The readings whole, kept by every step -/

namespace Sys2Proof.Machine

/-! ### The fields of a block -/

theorem six_forall {α : Type} {p : α → Prop} {v : Six α} (h0 : p v.x0) (h1 : p v.x1) (h2 : p v.x2) (h3 : p v.x3)
    (h4 : p v.x4) (h5 : p v.x5) (j : Nat) : p (six v j) := by
  unfold six
  split <;> assumption

/-- Six fields of at most FIELD_WIDTH bytes (R38). -/
theorem six_length_le {v : Six (List Byte)} (h0 : v.x0.length ≤ 8) (h1 : v.x1.length ≤ 8) (h2 : v.x2.length ≤ 8)
    (h3 : v.x3.length ≤ 8) (h4 : v.x4.length ≤ 8) (h5 : v.x5.length ≤ 8) : ∀ j, (six v j).length ≤ 8 :=
  six_forall (p := fun f : List Byte => f.length ≤ 8) h0 h1 h2 h3 h4 h5

theorem slice_length_le {α : Type} (s : List α) (i j : Nat) : (slice s i j).length ≤ j - i := by
  simp only [slice, List.length_drop, List.length_take]
  omega

/-- PARSE_DATA answers three slices of at most FIELD_WIDTH bytes (R302). -/
theorem parseData_lengths {r f0 f1 f2 : List Byte} (h : parseData r = some (f0, f1, f2)) :
    f0.length ≤ 8 ∧ f1.length ≤ 8 ∧ f2.length ≤ 8 := by
  unfold parseData at h
  repeat' split at h
  · cases h
  · cases h
  · cases h
    exact ⟨slice_length_le r 2 10, slice_length_le r 11 19, slice_length_le r 20 28⟩
  · cases h

theorem ReadingSafe.storeFields {s : State} (h : ReadingSafe s) {f0 f1 f2 : List Byte} (h0 : f0.length ≤ 8)
    (h1 : f1.length ≤ 8) (h2 : f2.length ≤ 8) : ReadingSafe (storeFields f0 f1 f2 s) := by
  unfold Machine.storeFields
  split
  · exact { h with fields := six_length_le h0 h1 h2 (h.fields 3) (h.fields 4) (h.fields 5) }
  · exact { h with fields := six_length_le (h.fields 0) (h.fields 1) (h.fields 2) h0 h1 h2 }

/-! ### The values and the bank -/

/-- A field's value, or the zero of a block that did not parse, has a text of at most 10 bytes (R260, R261, R308). -/
theorem convertField_text_length {ok : Bool} {f : List Byte} {v : Value} (hf : f.length ≤ 8)
    (h : convertField ok f = some v) : (formatValue v).length ≤ 10 := by
  cases ok with
  | true => exact formatValue_length_of_numeric hf h
  | false =>
    cases h
    decide

theorem convertAll_text_length {e : Engine} {v : Six Value} (hf : ∀ j, (six e.fields j).length ≤ 8)
    (h : convertAll e = some v) : ∀ j, (formatValue (six v j)).length ≤ 10 := by
  unfold convertAll at h
  split at h
  · rename_i h0 h1 h2 h3 h4 h5
    cases h
    exact six_forall (p := fun x => (formatValue x).length ≤ 10) (convertField_text_length (hf 0) h0)
      (convertField_text_length (hf 1) h1) (convertField_text_length (hf 2) h2) (convertField_text_length (hf 3) h3)
      (convertField_text_length (hf 4) h4) (convertField_text_length (hf 5) h5)
  · cases h

theorem at'_of_length_le {r : List Byte} {i : Nat} (h : r.length ≤ i) : at' r i = 0 :=
  List.getD_eq_default _ _ h

theorem at'_append_replicate_zero {r : List Byte} {n i : Nat} (h : r.length ≤ i) :
    at' (r ++ List.replicate n 0) i = 0 := by
  rw [at', List.getD_append_right _ _ _ _ h, List.getD_eq_getElem?_getD, List.getElem?_replicate]
  split <;> rfl

/-- A text that fits the window makes a whole reading (R35, R262, R309). -/
theorem readingBank_safe (a : Byte) (v : Six Value) {raw : List Byte} (h : raw.length ≤ 67) :
    BankSafe (readingBank a v raw) := by
  have hlen : (BitVec.ofNat 7 raw.length).toNat = raw.length := Nat.mod_eq_of_lt (by omega)
  refine ⟨?_, hlen.trans_le h, fun i hi => ?_, fun hv => Bool.noConfusion hv⟩
  · have hwindow : Config.rawBytes = 68 := rfl
    simp only [readingBank, List.length_append, List.length_replicate]
    omega
  · exact at'_append_replicate_zero (hlen ▸ hi)

/-- The empty bank is no reading. -/
theorem bankClear_safe : BankSafe bankClear :=
  ⟨rfl, Nat.zero_le 67, fun _ _ => at'_append_replicate_zero (r := []) (n := 68) (Nat.zero_le _), fun _ => rfl⟩

theorem ReadingSafe.setBank {s : State} (h : ReadingSafe s) (k : BitVec 2) {d : Bank} (hd : BankSafe d) :
    ReadingSafe (setBank k d s) := by
  unfold Machine.setBank
  repeat' split
  · exact { h with moisture := hd }
  · exact { h with temperature := hd }
  · exact h

/-! ### The host access -/

theorem SingleCycleEffect.readingSafe {a : BusAccess} {s t : State} (e : SingleCycleEffect a s t)
    (h : ReadingSafe s) : ReadingSafe t := by
  cases e with
  | setactive =>
    unfold setactiveEffect
    split <;> exact { h with }
  | _ => exact { h with }

/-- POLL clears the fields and keeps the banks (R251). -/
theorem AcceptanceEffect.readingSafe {s t : State} (e : AcceptanceEffect s t) (h : ReadingSafe s) :
    ReadingSafe t := by
  have hnil : ([] : List Byte).length ≤ 8 := Nat.zero_le 8
  cases e with
  | poll k x => exact { h with fields := six_length_le hnil hnil hnil hnil hnil hnil }
  | _ => exact { h with }

theorem hostAccess_readingSafe {a : BusAccess} {s u : State} (h : ReadingSafe s) (hu : hostAccess a s = .next u) :
    ReadingSafe u := by
  rcases hostAccess_cases hu with ⟨k, -, rfl⟩ | ⟨-, e⟩ | ⟨-, e⟩ | ⟨r, rfl⟩ | ⟨-, r, rfl⟩ | rfl | ⟨r, rfl⟩ | rfl
  · exact { h with }
  · exact e.readingSafe h
  · exact e.readingSafe h
  · exact { h with }
  · exact { h with }
  · exact { h with }
  · exact { h with }
  · exact h

/-! ### The engine -/

/-- The engine writes a field only in P_DATA_CHECK (R259). -/
theorem engineStep_fields (xIdle : Bool) {s : State} (hq : s.engine.seq ≠ .dataCheck) :
    (engineStep xIdle s).engine.fields = s.engine.fields := by
  cases hseq : s.engine.seq <;> simp only [engineStep, hseq]
  · unfold stepStart; dsimp only; split <;> rfl
  · unfold stepIssueSend; split <;> rfl
  · unfold stepIssueCheck; dsimp only; repeat' split
    all_goals rfl
  · unfold stepReadyListen; split <;> rfl
  · unfold stepReadyCheck; dsimp only; repeat' split
    all_goals rfl
  · unfold stepDataSend nextBlock failBlock setBlkTries; repeat' split
    all_goals rfl
  · exact absurd hseq hq
  · unfold stepConvert setBank; repeat' split
    all_goals rfl
  · rfl

theorem ReadingSafe.stepDataCheck {s : State} (h : ReadingSafe s) : ReadingSafe (stepDataCheck s) := by
  unfold Machine.stepDataCheck
  dsimp only
  split
  · exact { h with }
  · rename_i f0 f1 f2 hparse
    obtain ⟨h0, h1, h2⟩ := parseData_lengths hparse
    have ht : ReadingSafe (Machine.collect s) := { h with }
    exact { ht.storeFields h0 h1 h2 with }

/-- The raw text of six such values fits the window; without one there is no text (R261, R306, R309). -/
theorem ReadingSafe.stepConvert {s : State} (h : ReadingSafe s) : ReadingSafe (stepConvert s) := by
  unfold Machine.stepConvert
  split
  · rename_i v hv
    have hraw : (formatRaw s.engine.addr v).length ≤ 67 := formatRaw_length_le (convertAll_text_length h.fields hv)
    exact { h.setBank s.engine.kind (readingBank_safe s.engine.addr v hraw) with }
  · have hncf : ReadingSafe { s with poll := { s.poll with ncf := true } } := { h with }
    exact { hncf.setBank s.engine.kind (readingBank_safe s.engine.addr (sixOf zeroValue) (raw := []) (Nat.zero_le 67)) with }

theorem ReadingSafe.engineStep {s : State} (h : ReadingSafe s) (xIdle : Bool) :
    ReadingSafe (engineStep xIdle s) := by
  by_cases hcheck : s.engine.seq = .dataCheck
  · cases xIdle <;> simp only [Machine.engineStep, hcheck]
    · exact h
    · exact h.stepDataCheck
  by_cases hconvert : s.engine.seq = .convert
  · simp only [Machine.engineStep, hconvert]
    exact h.stepConvert
  obtain ⟨hm | ⟨hm, -⟩, ht | ⟨ht, -⟩⟩ := engineStep_banks xIdle s
  · exact ⟨hm ▸ h.moisture, ht ▸ h.temperature, engineStep_fields xIdle hcheck ▸ h.fields⟩
  all_goals exact absurd ‹_› hconvert

/-! ### The cycle -/

/-- The transport moves no field and no bank. -/
theorem ReadingSafe.transportPhase {s : State} (h : ReadingSafe s) (s0 : State) :
    ReadingSafe (transportPhase s0 s) := by
  unfold Machine.transportPhase
  split
  · exact h
  · exact ⟨transportStep_moisture s ▸ h.moisture, transportStep_temperature s ▸ h.temperature,
      transportStep_engine s ▸ h.fields⟩

theorem ReadingSafe.enginePhase {s : State} (h : ReadingSafe s) (s0 : State) : ReadingSafe (enginePhase s0 s) := by
  unfold Machine.enginePhase
  split
  · exact h
  · exact h.engineStep _

/-- The UART and the end of the cycle move no field and no bank. -/
theorem ReadingSafe.clockEdge {s1 : State} (h : ReadingSafe s1) (s0 : State) : ReadingSafe (clockEdge s0 s1) := by
  have hseq := (h.transportPhase s0).enginePhase s0
  unfold Machine.clockEdge
  dsimp only
  obtain ⟨tx, rx, rxq, ovr, huart⟩ :=
    uart_frame (rxdNow s0) s0 (Machine.enginePhase s0 (Machine.transportPhase s0 s1))
  rw [huart]
  exact { hseq with }

/-- Reset leaves both banks and all fields empty (R40, R370). -/
theorem reset_readingSafe (p : Params) : ReadingSafe { State.reset with params := p } :=
  have hnil : ([] : List Byte).length ≤ 8 := Nat.zero_le 8
  ⟨bankClear_safe, bankClear_safe, six_length_le hnil hnil hnil hnil hnil hnil⟩

theorem resetCycle_readingSafe (s : State) : ReadingSafe (resetCycle s) :=
  { reset_readingSafe s.params with }

end Sys2Proof.Machine

open Sys2Proof Sys2Proof.Machine

/-- Settles O60: a field is a slice of at most 8 bytes, its value's text has at most 10, and a bank is written whole. -/
theorem stepKeepsReadingSafe : Obligations.StepKeepsReadingSafe := by
  intro s t h hstep
  rcases step_cases hstep with ⟨-, rfl⟩ | ⟨-, -, rfl⟩ | ⟨a, u, -, -, hu, rfl⟩
  · exact resetCycle_readingSafe s
  · exact h.clockEdge s
  · exact (hostAccess_readingSafe h hu).clockEdge s

end

section
/-! ## Reset and the banks -/

namespace Sys2Proof.Machine

/-- No access writes a bank. -/
theorem hostAccess_banks {a : BusAccess} {s u : State} (hu : hostAccess a s = .next u) :
    u.moisture = s.moisture ∧ u.temperature = s.temperature := by
  rcases hostAccess_cases hu with ⟨k, -, rfl⟩ | ⟨-, e⟩ | ⟨-, e⟩ | ⟨r, rfl⟩ | ⟨-, r, rfl⟩ | rfl | ⟨r, rfl⟩ | rfl
  · exact ⟨rfl, rfl⟩
  · cases e with
    | setactive =>
      unfold setactiveEffect
      split <;> exact ⟨rfl, rfl⟩
    | _ => exact ⟨rfl, rfl⟩
  · cases e <;> exact ⟨rfl, rfl⟩
  all_goals exact ⟨rfl, rfl⟩

theorem transportPhase_engine (s0 s : State) : (transportPhase s0 s).engine = s.engine := by
  unfold transportPhase
  split
  · rfl
  · exact transportStep_engine s

theorem transportPhase_banks (s0 s : State) :
    (transportPhase s0 s).moisture = s.moisture ∧ (transportPhase s0 s).temperature = s.temperature := by
  unfold transportPhase
  split
  · exact ⟨rfl, rfl⟩
  · exact ⟨transportStep_moisture s, transportStep_temperature s⟩

/-- The UART and the end of the cycle leave the banks as the engine left them. -/
theorem clockEdge_banks (s0 s1 : State) :
    (clockEdge s0 s1).moisture = (enginePhase s0 (transportPhase s0 s1)).moisture ∧
    (clockEdge s0 s1).temperature = (enginePhase s0 (transportPhase s0 s1)).temperature := by
  unfold clockEdge
  dsimp only
  obtain ⟨tx, rx, rxq, ovr, huart⟩ := uart_frame (rxdNow s0) s0 (enginePhase s0 (transportPhase s0 s1))
  rw [huart]
  exact ⟨rfl, rfl⟩

/-- When step 1 left the engine of a busy block, a bank changes only as P_CONVERT of its kind says (R262). -/
theorem clockEdge_banks_cases {s0 s1 : State} (he : busy s0 = true → s1.engine = s0.engine) :
    ((clockEdge s0 s1).moisture = s1.moisture ∨ (s0.engine.seq = .convert ∧ s0.engine.kind = 0)) ∧
    ((clockEdge s0 s1).temperature = s1.temperature ∨ (s0.engine.seq = .convert ∧ s0.engine.kind = 1)) := by
  obtain ⟨hm, ht⟩ := clockEdge_banks s0 s1
  obtain ⟨htm, htt⟩ := transportPhase_banks s0 s1
  rw [hm, ht, ← htm, ← htt]
  unfold enginePhase
  split
  · exact ⟨.inl rfl, .inl rfl⟩
  · rename_i hrun
    have hbusy : busy s0 = true := by simp [busy, pbusy, hrun]
    have hengine : (transportPhase s0 s1).engine = s0.engine := (transportPhase_engine s0 s1).trans (he hbusy)
    have hbanks := engineStep_banks (s0.xport.seq == .idle) (transportPhase s0 s1)
    rwa [hengine] at hbanks

end Sys2Proof.Machine

open Sys2Proof Sys2Proof.Machine

/-- Settles O56, from the four invariants of reset at its own parameters. -/
theorem resetIsSafe : Obligations.ResetIsSafe :=
  ⟨reset_lineSafe State.reset.params, reset_bufferSafe State.reset.params, reset_codeSafe State.reset.params,
    reset_readingSafe State.reset.params⟩

/-- Settles O53: step 1 writes no bank, and in the clock edge only the engine does, in P_CONVERT. -/
theorem banksChangeOnlyInConversion : Obligations.BanksChangeOnlyInConversion := by
  intro s t hstep hrun
  rcases step_cases hstep with ⟨hreset, -⟩ | ⟨-, -, rfl⟩ | ⟨a, u, -, -, hu, rfl⟩
  · simp [hrun] at hreset
  · obtain ⟨hm, ht⟩ := clockEdge_banks_cases (s0 := s) (s1 := s) fun _ => rfl
    exact ⟨hm.resolve_left, ht.resolve_left⟩
  · obtain ⟨hum, hut⟩ := hostAccess_banks hu
    have hengine : busy s = true → u.engine = s.engine := fun hb => by
      obtain ⟨-, hengine⟩ := hostAccess_busy_sequencers hb hu
      exact hengine
    obtain ⟨hm, ht⟩ := clockEdge_banks_cases hengine
    rw [hum] at hm
    rw [hut] at ht
    exact ⟨hm.resolve_left, ht.resolve_left⟩

end

section
/-! ## The register window -/

namespace Sys2Proof.Machine

/-! ### What stands at each index -/

theorem readWord_moisture (s : State) {o : Nat} (h : o < 64) : readWord s (64 + o) = bankWord s.moisture o := by
  unfold readWord
  rw [if_pos (by omega), Nat.add_sub_cancel_left]

theorem readWord_temperature (s : State) {o : Nat} (h : o < 64) :
    readWord s (128 + o) = bankWord s.temperature o := by
  unfold readWord
  rw [if_neg (by omega), if_pos (by omega), Nat.add_sub_cancel_left]

/-- Past SRQ and outside the banks nothing is mapped (R72, R73). -/
theorem readWord_unmapped (s : State) {i : Nat} (h : 18 ≤ i) (hm : ¬ (64 ≤ i ∧ i < 128))
    (ht : ¬ (128 ≤ i ∧ i < 192)) : readWord s i = 0 := by
  unfold readWord
  rw [if_neg hm, if_neg ht]
  split
  case h_16 => rfl
  all_goals omega

theorem bankWord_valdec (k : Bank) {j : Nat} (h : j < 6) : bankWord k (4 + j) = six k.valdec j := by
  rw [bankWord, if_neg (by omega), if_pos (by omega), Nat.add_sub_cancel_left]

theorem bankWord_valf64_low (k : Bank) {j : Nat} (h : j < 6) :
    bankWord k (12 + 2 * j) = (six k.valf64 j).extractLsb' 0 32 := by
  rw [bankWord, if_neg (by omega), if_neg (by omega), if_pos (by omega), if_pos (by omega),
    show (12 + 2 * j - 12) / 2 = j by omega]

theorem bankWord_valf64_high (k : Bank) {j : Nat} (h : j < 6) :
    bankWord k (13 + 2 * j) = (six k.valf64 j).extractLsb' 32 32 := by
  rw [bankWord, if_neg (by omega), if_neg (by omega), if_pos (by omega), if_neg (by omega),
    show (13 + 2 * j - 12) / 2 = j by omega]

theorem bankWord_raw (k : Bank) {w : Nat} (h : w < 17) : bankWord k (24 + w) = rawWord k w := by
  rw [bankWord, if_neg (by omega), if_neg (by omega), if_neg (by omega), if_pos (by omega),
    Nat.add_sub_cancel_left]

/-- Byte lane `i` of RAW word `w` (R74). -/
theorem rawWord_lane (k : Bank) (w : Nat) {i : Nat} (h : i < 4) :
    (rawWord k w).extractLsb' (8 * i) 8 = at' k.raw (4 * w + i) := by
  unfold rawWord
  match i, h with
  | 0, _ => exact BitVec.extractLsb'_append_eq_right
  | 1, _ =>
    simp (disch := decide) only [BitVec.extractLsb'_append_eq_of_le]
    exact BitVec.extractLsb'_append_eq_right
  | 2, _ =>
    simp (disch := decide) only [BitVec.extractLsb'_append_eq_of_le]
    exact BitVec.extractLsb'_append_eq_right
  | 3, _ =>
    simp (disch := decide) only [BitVec.extractLsb'_append_eq_of_le]
    exact BitVec.extractLsb'_eq_self

/-- The words of a bank, wherever its part of the map begins (R35, R72, R74, R75). -/
theorem bank_map {s : State} {base : Nat} {k : Bank} (h : ∀ o, o < 64 → readWord s (base + o) = bankWord k o) :
    readWord s base = rdStatusWord k ∧
    (∀ j, j < 6 →
      readWord s (base + 4 + j) = six k.valdec j ∧
      readWord s (base + 12 + 2 * j) = (six k.valf64 j).extractLsb' 0 32 ∧
      readWord s (base + 13 + 2 * j) = (six k.valf64 j).extractLsb' 32 32) ∧
    (∀ w i, w < 17 → i < 4 →
      (readWord s (base + 24 + w)).extractLsb' (8 * i) 8 = k.raw.getD (4 * w + i) 0) := by
  refine ⟨h 0 (by decide), fun j hj => ⟨?_, ?_, ?_⟩, fun w i hw hi => ?_⟩
  · rw [Nat.add_assoc, h _ (by omega), bankWord_valdec k hj]
  · rw [Nat.add_assoc, h _ (by omega), bankWord_valf64_low k hj]
  · rw [Nat.add_assoc, h _ (by omega), bankWord_valf64_high k hj]
  · rw [Nat.add_assoc, h _ (by omega), bankWord_raw k hw, rawWord_lane k w hi, at']

/-! ### Plain accesses -/

theorem decode_write_plain {a : Offset} (v : Word) (h : 1 < regIndex a) :
    decode (.write a v) = .error .plainRegister := by
  rw [decode, if_neg (by omega), if_neg (by omega)]

/-- A write past CMD and STATUS reaches the RW registers and nothing else (R73, R77). -/
theorem hostAccess_write_plain {a : Offset} (v : Word) (s : State) (h : 1 < regIndex a) :
    hostAccess (.write a v) s = .next { s with regs := writeRegs (regIndex a) v s.regs } := by
  rw [hostAccess, decode_write_plain v h]
  rfl

theorem writeRegs_of_readOnly {i : Nat} (v : Word) (r : HostRegs) (h : rwMask i = none) : writeRegs i v r = r := by
  unfold rwMask at h
  split at h
  case h_10 =>
    unfold writeRegs
    split
    case h_10 => rfl
    all_goals contradiction
  all_goals cases h

/-- Every read but RXDATA shows the register (R73, R187, R188). -/
theorem hostAccess_read (s : State) {a : Offset} (h : regIndex a ≠ 0x0C) :
    hostAccess (.read a) s = .next { s with rdata := readWord s (regIndex a) } := by
  by_cases hpeek : regIndex a = 0x0D
  · rw [hostAccess, decode, if_neg h, if_pos hpeek, hpeek]
    rfl
  by_cases havail : regIndex a = 0x0E
  · rw [hostAccess, decode, if_neg h, if_neg hpeek, if_pos havail, havail]
    rfl
  · rw [hostAccess, decode, if_neg h, if_neg hpeek, if_neg havail]
    rfl

/-! ### The words of the RW registers -/

/-- The low bits of a word, put back in a word, are the word under a mask of ones. -/
theorem setWidth_extractLsb'_low (v m : Word) {n : Nat} (hm : m.toNat = 2 ^ n - 1) :
    (v.extractLsb' 0 n).setWidth 32 = v &&& m := by
  apply BitVec.eq_of_toNat_eq
  rw [BitVec.toNat_setWidth, BitVec.extractLsb'_toNat, Nat.shiftRight_zero, BitVec.toNat_and, hm,
    Nat.and_two_pow_sub_one_eq_mod]
  exact Nat.mod_eq_of_lt ((Nat.mod_le _ _).trans_lt v.isLt)

theorem configWord_mask (v : Word) (r : HostRegs) :
    configWord { r with breakEn := v.getLsbD 0, rs485 := v.getLsbD 1, strictBlk := v.getLsbD 2 } = v &&& 0x7 := by
  apply BitVec.eq_of_getLsbD_eq
  intro i hi
  simp only [configWord, BitVec.getLsbD_and, BitVec.getLsbD_append]
  interval_cases i <;> simp

theorem retryWord_mask (v : Word) (r : HostRegs) :
    retryWord { r with issueAttempts := v.extractLsb' 0 4, blockAttempts := v.extractLsb' 4 4 } = v &&& 0xFF := by
  apply BitVec.eq_of_getLsbD_eq
  intro i hi
  simp only [retryWord, BitVec.getLsbD_and, BitVec.getLsbD_append]
  interval_cases i <;> simp

/-- What is written to an RW register reads back under its mask (R26, R28 to R32). -/
theorem readWord_writeRegs_same (s : State) {i : Nat} (v : Word) {m : Word} (h : rwMask i = some m) :
    readWord { s with regs := writeRegs i v s.regs } i = v &&& m := by
  have hwhole : v = v &&& 0xFFFFFFFF := BitVec.and_allOnes.symm
  unfold rwMask at h
  split at h <;> cases h
  · exact configWord_mask v s.regs
  · exact setWidth_extractLsb'_low v 0xFFFF (n := 16) rfl
  · exact retryWord_mask v s.regs
  · exact setWidth_extractLsb'_low v 0x3FF (n := 10) rfl
  · exact setWidth_extractLsb'_low v 0x1F (n := 5) rfl
  all_goals exact hwhole

/-- Two RW registers have no field in common. -/
theorem readWord_writeRegs_other (s : State) {i j : Nat} (v : Word) (hij : i ≠ j) (hi : rwMask i ≠ none) :
    readWord { s with regs := writeRegs j v s.regs } i = readWord s i := by
  unfold rwMask at hi
  split at hi
  case h_10 => exact absurd rfl hi
  all_goals
    unfold writeRegs
    split <;> first | rfl | exact absurd rfl hij

theorem one_lt_of_rwMask {i : Nat} {m : Word} (h : rwMask i = some m) : 1 < i := by
  unfold rwMask at h
  split at h
  case h_10 => cases h
  all_goals decide

end Sys2Proof.Machine

open Sys2Proof Sys2Proof.Machine

/-- Settles O23: a write past STATUS is `writeRegs`, whose registers read back under their masks. -/
theorem registerWriteReadsBack : Obligations.RegisterWriteReadsBack := by
  refine ⟨fun s a v m hm => ⟨_, hostAccess_write_plain v s (one_lt_of_rwMask hm), readWord_writeRegs_same s v hm, rfl,
    fun i hi hrw => readWord_writeRegs_other s v hi hrw⟩, fun s a v => ?_⟩
  have hwrite := hostAccess_write_plain (a := a) v s
  refine ⟨?_, ?_, ?_, ?_, ?_, ?_, ?_, ?_, ?_⟩
  all_goals
    intro ha
    rw [hwrite (by rw [ha]; decide), ha]
    rfl

/-- Settles O24: a read shows its register, a write past STATUS is `writeRegs`, and both banks have one map. -/
theorem plainAccessesHaveNoSideEffect : Obligations.PlainAccessesHaveNoSideEffect := by
  refine ⟨fun s a => ⟨hostAccess_read s, fun v ha hro => ?_⟩, fun s => ⟨rfl, rfl, rfl⟩, fun s base k hbase => ?_,
    fun α v => ⟨rfl, rfl, rfl, rfl, rfl, rfl⟩⟩
  · rw [hostAccess_write_plain v s ha, writeRegs_of_readOnly v s.regs hro]
  · rcases hbase with ⟨rfl, rfl⟩ | ⟨rfl, rfl⟩
    · exact bank_map fun o => readWord_moisture s
    · exact bank_map fun o => readWord_temperature s

end

section
/-! ## The result words and reset -/

namespace Sys2Proof.Machine

/-! ### The fields of the result words -/

theorem pollStatusWord_flags (p : PollStatus) :
    (pollStatusWord p).getLsbD 0 = p.done ∧ (pollStatusWord p).getLsbD 8 = p.blk0Fail ∧
    (pollStatusWord p).getLsbD 9 = p.blk1Fail ∧ (pollStatusWord p).getLsbD 10 = p.ncf ∧
    (pollStatusWord p).getLsbD 11 = p.ovfSeen ∧ (pollStatusWord p).getLsbD 12 = p.readyEarly ∧
    (pollStatusWord p).getLsbD 15 = false := by
  simp only [pollStatusWord, BitVec.getLsbD_append, Nat.reduceLT, Nat.reduceSub, if_true, if_false,
    BitVec.getLsbD_ofBool]
  simp

theorem pollStatusWord_codes (p : PollStatus) :
    (pollStatusWord p).extractLsb' 1 3 = p.phase ∧ (pollStatusWord p).extractLsb' 4 4 = p.result ∧
    (pollStatusWord p).extractLsb' 13 2 = p.kind := by
  unfold pollStatusWord
  simp (disch := decide) only [BitVec.extractLsb'_append_eq_of_le]
  exact ⟨BitVec.extractLsb'_append_eq_right, BitVec.extractLsb'_append_eq_right, BitVec.extractLsb'_append_eq_right⟩

theorem pollStatusWord_tries (p : PollStatus) :
    (pollStatusWord p).extractLsb' 16 4 = p.issueTries ∧ (pollStatusWord p).extractLsb' 20 4 = p.blk0Tries ∧
    (pollStatusWord p).extractLsb' 24 4 = p.blk1Tries ∧ (pollStatusWord p).extractLsb' 28 4 = 0 := by
  unfold pollStatusWord
  simp (disch := decide) only [BitVec.extractLsb'_append_eq_of_le]
  exact ⟨BitVec.extractLsb'_append_eq_right, BitVec.extractLsb'_append_eq_right, BitVec.extractLsb'_append_eq_right,
    BitVec.extractLsb'_eq_self⟩

theorem srqWord_fields (q : Srq) :
    (srqWord q).extractLsb' 0 8 = q.addr ∧ (srqWord q).extractLsb' 8 10 = q.ttt ∧
    (srqWord q).extractLsb' 18 4 = q.n ∧ (srqWord q).extractLsb' 22 9 = 0 ∧ (srqWord q).getLsbD 31 = q.valid := by
  have hvalid : (srqWord q).getLsbD 31 = q.valid := by
    simp only [srqWord, BitVec.getLsbD_append, Nat.reduceLT, Nat.reduceSub, if_false, BitVec.getLsbD_ofBool]
    simp
  refine ⟨BitVec.extractLsb'_append_eq_right, ?_, ?_, ?_, hvalid⟩
  all_goals
    unfold srqWord
    simp (disch := decide) only [BitVec.extractLsb'_append_eq_of_le]
    exact BitVec.extractLsb'_append_eq_right

theorem rdStatusWord_fields (k : Bank) :
    (rdStatusWord k).getLsbD 0 = k.valid ∧ (rdStatusWord k).extractLsb' 1 7 = 0 ∧
    (rdStatusWord k).extractLsb' 8 8 = k.addr ∧ (rdStatusWord k).extractLsb' 16 7 = k.rawLen ∧
    (rdStatusWord k).extractLsb' 23 9 = 0 := by
  have hvalid : (rdStatusWord k).getLsbD 0 = k.valid := by
    simp only [rdStatusWord, BitVec.getLsbD_append, Nat.reduceLT, if_true, BitVec.getLsbD_ofBool]
    simp
  refine ⟨hvalid, ?_⟩
  unfold rdStatusWord
  simp (disch := decide) only [BitVec.extractLsb'_append_eq_of_le]
  exact ⟨BitVec.extractLsb'_append_eq_right, BitVec.extractLsb'_append_eq_right, BitVec.extractLsb'_append_eq_right,
    BitVec.extractLsb'_eq_self⟩

theorem decWord_fields (v : Value) :
    (decWord v).extractLsb' 0 27 = BitVec.ofNat 27 v.mant ∧ (decWord v).extractLsb' 27 3 = BitVec.ofNat 3 v.scale ∧
    (decWord v).getLsbD 30 = v.neg ∧ (decWord v).getLsbD 31 = false := by
  have hsign : (decWord v).getLsbD 30 = v.neg ∧ (decWord v).getLsbD 31 = false := by
    simp only [decWord, BitVec.getLsbD_append, Nat.reduceLT, Nat.reduceSub, if_true, if_false, BitVec.getLsbD_ofBool]
    simp
  refine ⟨BitVec.extractLsb'_append_eq_right, ?_, hsign⟩
  unfold decWord
  simp (disch := decide) only [BitVec.extractLsb'_append_eq_of_le]
  exact BitVec.extractLsb'_append_eq_right

/-! ### The map after reset -/

theorem six_sixOf {α : Type} (x : α) (j : Nat) : six (sixOf x) j = x :=
  six_forall (p := fun y => y = x) rfl rfl rfl rfl rfl rfl j

/-- The bank registers of a bank with no reading are all 0 (R35). -/
theorem bankWord_bankClear (o : Nat) : bankWord bankClear o = 0 := by
  have hraw : ∀ i, at' bankClear.raw i = 0 := fun i => bankClear_safe.padding i (Nat.zero_le i)
  have hvaldec : ∀ j, six bankClear.valdec j = 0 := six_sixOf 0
  have hvalf64 : ∀ j, six bankClear.valf64 j = 0 := six_sixOf 0
  unfold bankWord
  repeat' split
  · rfl
  · exact hvaldec _
  · rw [hvalf64]; rfl
  · rw [hvalf64]; rfl
  · simp only [rawWord, hraw]; rfl
  · rfl

theorem readWord_reset (i : Nat) :
    readWord State.reset i =
      if i = 0x02 then 0x00000001 else if i = 0x03 then 0x000003E8 else if i = 0x04 then 0x00000022
      else if i = 0x05 then 0x00000064 else if i = 0x0C ∨ i = 0x0D then 0x00000100 else 0 := by
  by_cases hlow : i < 18
  · interval_cases i <;> rfl
  rw [if_neg (by omega), if_neg (by omega), if_neg (by omega), if_neg (by omega), if_neg (by omega)]
  by_cases hm : 64 ≤ i ∧ i < 128
  · obtain ⟨o, rfl⟩ := Nat.exists_eq_add_of_le hm.1
    rw [readWord_moisture _ (by omega)]
    exact bankWord_bankClear o
  by_cases ht : 128 ≤ i ∧ i < 192
  · obtain ⟨o, rfl⟩ := Nat.exists_eq_add_of_le ht.1
    rw [readWord_temperature _ (by omega)]
    exact bankWord_bankClear o
  · exact readWord_unmapped _ (by omega) hm ht

end Sys2Proof.Machine

open Sys2Proof Sys2Proof.Machine

/-- Settles O28, word by word. -/
theorem resultWordFields : Obligations.ResultWordFields := by
  refine ⟨fun p => ?_, srqWord_fields, rdStatusWord_fields, fun v hmant hscale => ?_⟩
  · obtain ⟨hdone, h0, h1, hncf, hovf, hearly, hzero⟩ := pollStatusWord_flags p
    obtain ⟨hphase, hresult, hkind⟩ := pollStatusWord_codes p
    obtain ⟨hissue, hblk0, hblk1, htop⟩ := pollStatusWord_tries p
    exact ⟨hdone, hphase, hresult, h0, h1, hncf, hovf, hearly, hkind, hzero, hissue, hblk0, hblk1, htop⟩
  · obtain ⟨hm, hs, hneg, hzero⟩ := decWord_fields v
    rw [hm, hs, BitVec.toNat_ofNat, BitVec.toNat_ofNat]
    exact ⟨Nat.mod_eq_of_lt (by omega), Nat.mod_eq_of_lt (by omega), hneg, hzero⟩

/-- Settles O7, from the register map after reset. -/
theorem resetLeavesTheSpecValues : Obligations.ResetLeavesTheSpecValues :=
  ⟨rfl, rfl, readWord_reset 1, readWord_reset, rfl, rfl, rfl⟩

end

section
/-! ## The command latch -/

namespace Sys2Proof.Machine

/-- Byte `n` of TXBUF: lane `n mod 4` of word `n div 4` (R32, R74). -/
theorem txbufBytes_getElem? (r : HostRegs) {n : Nat} (h : n < 16) :
    (txbufBytes r)[n]? =
      ([r.txbuf0, r.txbuf1, r.txbuf2, r.txbuf3][n / 4]?).map fun w => w.extractLsb' (8 * (n % 4)) 8 := by
  interval_cases n <;> rfl

theorem txChars_length (r : HostRegs) (h : r.txlen.toNat ≤ 16) : (txChars r).length = r.txlen.toNat := by
  simpa [txChars, txLen, txbufBytes_length] using h

/-- The latched characters are the first LEN bytes of TXBUF with bit 7 cleared (R84, R183). -/
theorem txChars_getElem? (r : HostRegs) (hlen : r.txlen.toNat ≤ 16) {n : Nat} (h : n < r.txlen.toNat) :
    (txChars r)[n]? =
      ([r.txbuf0, r.txbuf1, r.txbuf2, r.txbuf3][n / 4]?).map
        (fun w => (w.extractLsb' (8 * (n % 4)) 8).setWidth 7) := by
  rw [txChars, List.getElem?_map, txLen, List.getElem?_take_of_lt h, txbufBytes_getElem? r (by omega), Option.map_map]
  rfl

/-- Latching writes the front of the latch. -/
theorem latchChars_getElem?_of_lt {cs old : List Char7} {n : Nat} (h : n < cs.length) :
    (latchChars cs old)[n]? = cs[n]? :=
  List.getElem?_append_left h

/-- Latching keeps the rest of the latch. -/
theorem latchChars_getElem?_of_le {cs old : List Char7} {n : Nat} (h : cs.length ≤ n) :
    (latchChars cs old)[n]? = old[n]? := by
  rw [latchChars, List.getElem?_append_right h, List.getElem?_drop, Nat.add_sub_cancel' h]

/-- TXBUF latched for a LEN of at most 16, index by index. -/
theorem latchChars_txChars (r : HostRegs) (old : List Char7) (hlen : r.txlen.toNat ≤ 16) :
    (∀ n, n < r.txlen.toNat →
      (latchChars (txChars r) old)[n]? =
        ([r.txbuf0, r.txbuf1, r.txbuf2, r.txbuf3][n / 4]?).map
          (fun w => (w.extractLsb' (8 * (n % 4)) 8).setWidth 7)) ∧
    (∀ n, r.txlen.toNat ≤ n → (latchChars (txChars r) old)[n]? = old[n]?) := by
  have hcs := txChars_length r hlen
  refine ⟨fun n hn => ?_, fun n hn => latchChars_getElem?_of_le (hcs.trans_le hn)⟩
  rw [latchChars_getElem?_of_lt (hn.trans_eq hcs.symm), txChars_getElem? r hlen hn]

end Sys2Proof.Machine

open Sys2Proof Sys2Proof.Machine

/-- Settles O16, from the latch index by index. -/
theorem sendcmdAccepted : Obligations.SendcmdAccepted := by
  intro s hb hlen
  obtain ⟨hlatched, hkept⟩ := latchChars_txChars s.regs s.xport.cmdl hlen
  refine ⟨sendcmdEffect s, ?_, rfl, rfl, hlatched, hkept⟩
  rw [exec, execSendcmd, command_accepted true sendcmdEffect s hb fun _ => hlen]

/-- Settles O17: with ECHO the latch of O16, without it none. -/
theorem listenAccepted : Obligations.ListenAccepted := by
  intro echo s hb hlen
  refine ⟨listenEffect echo s, ?_, rfl, rfl, ?_⟩
  · rw [exec, execListen, command_accepted echo (listenEffect echo) s hb hlen]
  · cases echo with
    | false => exact ⟨fun _ => rfl, fun he => Bool.noConfusion he, fun he => Bool.noConfusion he⟩
    | true =>
      obtain ⟨hlatched, hkept⟩ := latchChars_txChars s.regs s.xport.cmdl (hlen rfl)
      exact ⟨fun he => Bool.noConfusion he, fun _ => hlatched, fun _ => hkept⟩

end

section
/-! ## What the host can and cannot reach of a command in flight -/

namespace Sys2Proof.Machine

/-! ### The host's side of a state -/

/-- The state `s` with what the host writes and reads of `e`: the rejection flags, the RW registers, the read data and the
coming cycles. -/
def withHostSide (e s : State) : State := { s with err := e.err, regs := e.regs, rdata := e.rdata, host := e.host }

@[simp] theorem withHostSide_params (e s : State) : (withHostSide e s).params = s.params := rfl
@[simp] theorem withHostSide_fifo (e s : State) : (withHostSide e s).fifo = s.fifo := rfl
@[simp] theorem withHostSide_line (e s : State) : (withHostSide e s).line = s.line := rfl
@[simp] theorem withHostSide_xport (e s : State) : (withHostSide e s).xport = s.xport := rfl
@[simp] theorem withHostSide_engine (e s : State) : (withHostSide e s).engine = s.engine := rfl

/-- Two states run the same exactly when they differ in nothing but the host's side. -/
theorem sameRun_iff {s t : State} : SameRun s t ↔ t = withHostSide t s := by
  refine ⟨fun h => ?_, fun h => by rw [h]; exact ⟨rfl, rfl, rfl, rfl, rfl, rfl, rfl, rfl, rfl, rfl, rfl, rfl⟩⟩
  obtain ⟨hparams, hfifo, hline, hxport, hengine, hpoll, hsrq, hm, ht, hnow, hrxd, hdraws⟩ := h
  rw [withHostSide, hparams, hfifo, hline, hxport, hengine, hpoll, hsrq, hm, ht, hnow, hrxd, hdraws]

theorem SameRun.refl (s : State) : SameRun s s := sameRun_iff.mpr rfl

theorem SameRun.symm {s t : State} (h : SameRun s t) : SameRun t s := by
  rw [sameRun_iff.mp h, sameRun_iff]
  rfl

theorem SameRun.trans {s t u : State} (h : SameRun s t) (h' : SameRun t u) : SameRun s u := by
  rw [sameRun_iff.mp h', sameRun_iff.mp h, sameRun_iff]
  rfl

theorem SameRun.busy_eq {s t : State} (h : SameRun s t) : busy t = busy s := by
  rw [sameRun_iff.mp h]
  rfl

/-! ### The host access -/

/-- While BUSY an access reaches the host's side alone (R84, R85, R340). -/
theorem hostAccess_busy_sameRun {a : BusAccess} {s u : State} (hb : busy s = true) (hu : hostAccess a s = .next u) :
    SameRun s u := by
  rw [sameRun_iff]
  rcases hostAccess_cases hu with ⟨k, -, rfl⟩ | ⟨hf, -⟩ | ⟨hf, -⟩ | ⟨r, rfl⟩ | ⟨hf, -⟩ | rfl | ⟨r, rfl⟩ | rfl
  · rfl
  · simp [hb] at hf
  · simp [hb] at hf
  · rfl
  · simp [hb] at hf
  · rfl
  · rfl
  · rfl

/-! ### The transport -/

/-- A branch between two updates that leave the host's side, on a condition that does not read it. A sequencer state of the model
unfolds to such branches, so its lemma below applies this one once for each. -/
theorem ite_withHostSide {c : Prop} [Decidable c] {e a b a' b' : State} (ha : a' = withHostSide e a)
    (hb : b' = withHostSide e b) : (if c then a' else b') = withHostSide e (if c then a else b) := by
  split
  · exact ha
  · exact hb

theorem stepWake_withHostSide (e s : State) : stepWake (withHostSide e s) = withHostSide e (stepWake s) :=
  ite_withHostSide rfl rfl

theorem stepBreak_withHostSide (e s : State) : stepBreak (withHostSide e s) = withHostSide e (stepBreak s) :=
  ite_withHostSide (ite_withHostSide rfl rfl) rfl

theorem stepMark_withHostSide (e s : State) : stepMark (withHostSide e s) = withHostSide e (stepMark s) :=
  ite_withHostSide rfl rfl

theorem stepWrite_withHostSide (e s : State) : stepWrite (withHostSide e s) = withHostSide e (stepWrite s) :=
  ite_withHostSide (ite_withHostSide rfl rfl) rfl

theorem endListen_withHostSide (e s : State) : endListen (withHostSide e s) = withHostSide e (endListen s) := by
  have hstrip := ite_withHostSide (c := 0 < s.xport.echoLen) (e := e)
    (a := { s with fifo := fifoStrip (echoPattern s.xport) s.fifo }) (b := s) rfl rfl
  exact congrArg (setXseq .idle) hstrip

theorem stepListen_withHostSide (e s : State) : stepListen (withHostSide e s) = withHostSide e (stepListen s) := by
  simp only [stepListen, withHostSide_line]
  cases s.line.rxq with
  | nil => exact ite_withHostSide (endListen_withHostSide e s) rfl
  | cons x rest => rfl

/-- No state of the transport reads the host's side (R84). -/
theorem transportStep_withHostSide (e s : State) :
    transportStep (withHostSide e s) = withHostSide e (transportStep s) := by
  simp only [transportStep, withHostSide_xport]
  cases s.xport.seq with
  | idle => rfl
  | wake => exact stepWake_withHostSide e s
  | brk => exact stepBreak_withHostSide e s
  | mark => exact stepMark_withHostSide e s
  | write => exact stepWrite_withHostSide e s
  | lstart => rfl
  | listen => exact stepListen_withHostSide e s

/-! ### The engine -/

theorem failBlock_withHostSide (e s : State) : failBlock (withHostSide e s) = withHostSide e (failBlock s) :=
  ite_withHostSide rfl rfl

theorem setBlkTries_withHostSide (n : BitVec 4) (e s : State) :
    setBlkTries n (withHostSide e s) = withHostSide e (setBlkTries n s) :=
  ite_withHostSide rfl rfl

theorem storeFields_withHostSide (f0 f1 f2 : List Byte) (e s : State) :
    storeFields f0 f1 f2 (withHostSide e s) = withHostSide e (storeFields f0 f1 f2 s) :=
  ite_withHostSide rfl rfl

theorem setBank_withHostSide (k : BitVec 2) (d : Bank) (e s : State) :
    setBank k d (withHostSide e s) = withHostSide e (setBank k d s) :=
  ite_withHostSide rfl (ite_withHostSide rfl rfl)

theorem stepStart_withHostSide (e s : State) : stepStart (withHostSide e s) = withHostSide e (stepStart s) :=
  ite_withHostSide rfl rfl

theorem stepIssueSend_withHostSide (e s : State) :
    stepIssueSend (withHostSide e s) = withHostSide e (stepIssueSend s) :=
  ite_withHostSide rfl rfl

theorem stepIssueCheck_withHostSide (e s : State) :
    stepIssueCheck (withHostSide e s) = withHostSide e (stepIssueCheck s) := by
  simp only [stepIssueCheck, collect_engine, withHostSide_fifo]
  cases parseSrq s.fifo.q <;> rfl

theorem stepReadyListen_withHostSide (e s : State) :
    stepReadyListen (withHostSide e s) = withHostSide e (stepReadyListen s) :=
  ite_withHostSide rfl rfl

theorem stepReadyCheck_withHostSide (e s : State) :
    stepReadyCheck (withHostSide e s) = withHostSide e (stepReadyCheck s) :=
  ite_withHostSide rfl rfl

theorem stepDataSend_withHostSide (e s : State) : stepDataSend (withHostSide e s) = withHostSide e (stepDataSend s) :=
  have hfail := failBlock_withHostSide e s
  ite_withHostSide rfl
    (ite_withHostSide
      (ite_withHostSide (congrArg (finishWith (4 + BitVec.ofNat 4 s.engine.b)) hfail) (congrArg nextBlock hfail))
      (congrArg (startSend (dataCommand s.engine.b))
        (setBlkTries_withHostSide (s.engine.tries + 1) e
          { s with engine := { s.engine with tries := s.engine.tries + 1, seq := .dataCheck } })))

theorem stepDataCheck_withHostSide (e s : State) :
    stepDataCheck (withHostSide e s) = withHostSide e (stepDataCheck s) := by
  simp only [stepDataCheck, collect_engine, withHostSide_fifo]
  cases parseData s.fifo.q with
  | none => rfl
  | some f => exact congrArg nextBlock (storeFields_withHostSide f.1 f.2.1 f.2.2 e (collect s))

theorem stepConvert_withHostSide (e s : State) : stepConvert (withHostSide e s) = withHostSide e (stepConvert s) := by
  simp only [stepConvert, withHostSide_engine]
  cases convertAll s.engine with
  | some v => exact congrArg (finishWith 0) (setBank_withHostSide _ _ e s)
  | none =>
    exact congrArg (finishWith 0) (setBank_withHostSide _ _ e { s with poll := { s.poll with ncf := true } })

/-- No state of the engine reads the host's side (R84, R251). -/
theorem engineStep_withHostSide (xIdle : Bool) (e s : State) :
    engineStep xIdle (withHostSide e s) = withHostSide e (engineStep xIdle s) := by
  simp only [engineStep, withHostSide_engine]
  cases s.engine.seq with
  | idle => rfl
  | start => exact stepStart_withHostSide e s
  | issueSend => exact stepIssueSend_withHostSide e s
  | issueCheck => exact ite_withHostSide (stepIssueCheck_withHostSide e s) rfl
  | readyListen => exact stepReadyListen_withHostSide e s
  | readyCheck => exact ite_withHostSide (stepReadyCheck_withHostSide e s) rfl
  | dataSend => exact stepDataSend_withHostSide e s
  | dataCheck => exact ite_withHostSide (stepDataCheck_withHostSide e s) rfl
  | convert => exact stepConvert_withHostSide e s
  | finish => rfl

/-! ### The cycle -/

theorem transportPhase_withHostSide (e0 e s0 s : State) :
    transportPhase (withHostSide e0 s0) (withHostSide e s) = withHostSide e (transportPhase s0 s) :=
  ite_withHostSide rfl (transportStep_withHostSide e s)

theorem enginePhase_withHostSide (e0 e s0 s : State) :
    enginePhase (withHostSide e0 s0) (withHostSide e s) = withHostSide e (enginePhase s0 s) :=
  ite_withHostSide rfl (engineStep_withHostSide (s0.xport.seq == .idle) e s)

theorem uartTx_withHostSide (e0 e s0 s : State) :
    uartTx (withHostSide e0 s0) (withHostSide e s) = withHostSide e (uartTx s0 s) :=
  ite_withHostSide rfl rfl

theorem uartRx_withHostSide (level : Bool) (e0 e s0 s : State) :
    uartRx level (withHostSide e0 s0) (withHostSide e s) = withHostSide e (uartRx level s0 s) := by
  refine ite_withHostSide ?_ rfl
  simp only [withHostSide_line, withHostSide_params]
  cases (rxNext s.params s0.line.rate level s0.line.rx).delivered <;> rfl

/-- The clock edge carries equal runs to equal runs: it reads nothing of the host's side. -/
theorem SameRun.clockEdge {s s' u u' : State} (hs : SameRun s s') (hu : SameRun u u') :
    SameRun (clockEdge s u) (clockEdge s' u') := by
  rw [sameRun_iff.mp hs, sameRun_iff.mp hu]
  have hlevel : rxdNow (withHostSide s' s) = rxdNow s := rfl
  simp only [Machine.clockEdge, hlevel, transportPhase_withHostSide, enginePhase_withHostSide, uartTx_withHostSide,
    uartRx_withHostSide]
  rw [sameRun_iff]
  rfl

/-- A step of a busy block out of reset is the clock edge on a state that differs in the host's side alone. -/
theorem step_busy {s t : State} (hb : busy s = true) (hrun : (hostNow s).rstN = true) (hstep : step s = .next t) :
    ∃ u, SameRun s u ∧ t = clockEdge s u := by
  rcases step_cases hstep with ⟨hreset, -⟩ | ⟨-, -, rfl⟩ | ⟨a, u, -, -, hu, rfl⟩
  · simp [hrun] at hreset
  · exact ⟨s, SameRun.refl s, rfl⟩
  · exact ⟨u, hostAccess_busy_sameRun hb hu, rfl⟩

end Sys2Proof.Machine

open Sys2Proof Sys2Proof.Machine

/-- Settles O22: step 1 leaves both runs equal, and the clock edge carries equal runs to equal runs. -/
theorem runningCommandIgnoresTheHost : Obligations.RunningCommandIgnoresTheHost := by
  intro s s' t t' hsame hb hrun hrun' hstep hstep'
  obtain ⟨u, hu, rfl⟩ := step_busy hb hrun hstep
  obtain ⟨u', hu', rfl⟩ := step_busy (hsame.busy_eq.trans hb) hrun' hstep'
  exact hsame.clockEdge ((hu.symm.trans hsame).trans hu')

/-- Settles O21, from what an access can do to a busy block. -/
theorem hostCannotTouchARunningCommand : Obligations.HostCannotTouchARunningCommand :=
  fun _ _ _ hb hu => hostAccess_busy_sameRun hb hu

end

section
/-! ## Offsets outside the map, and the low address bits -/

namespace Sys2Proof.Machine

/-! ### What is not mapped reads 0 -/

theorem bankWord_unmapped (k : Bank) {o : Nat} (h : ¬ bankIndex o) : bankWord k o = 0 := by
  rw [bankIndex, not_or, not_or, not_or] at h
  obtain ⟨hstatus, hvaldec, hvalf64, hraw⟩ := h
  rw [bankWord, if_neg hstatus, if_neg hvaldec, if_neg hvalf64, if_neg hraw]

/-- The index of CMD and every index outside the map reads 0: the two holes below SRQ, the holes of either bank, and what lies past
the banks (R72, R73). -/
theorem readWord_of_not_mapped (s : State) {i : Nat} (h : i = 0 ∨ ¬ mappedIndex i) : readWord s i = 0 := by
  rcases h with rfl | h
  · rfl
  simp only [mappedIndex, not_or, not_exists, not_and] at h
  obtain ⟨hlow, hrxdata, hrxpeek, hrxavail, hpoll, hsrq, hmoisture, htemperature⟩ := h
  by_cases hi : i < 18
  · obtain rfl | rfl : i = 0x0B ∨ i = 0x0F := by omega
    · rfl
    · rfl
  by_cases hm : 64 ≤ i ∧ i < 128
  · obtain ⟨o, rfl⟩ := Nat.exists_eq_add_of_le hm.1
    rw [readWord_moisture s (by omega), bankWord_unmapped _ (hmoisture o rfl)]
  by_cases ht : 128 ≤ i ∧ i < 192
  · obtain ⟨o, rfl⟩ := Nat.exists_eq_add_of_le ht.1
    rw [readWord_temperature s (by omega), bankWord_unmapped _ (htemperature o rfl)]
  · exact readWord_unmapped s (by omega) hm ht

/-! ### An access means what its word index says -/

/-- Clearing bits 1:0 of an offset keeps its word index (R71). -/
theorem regIndex_align (a : Offset) : regIndex (a &&& 0xFFC) = regIndex a := by
  have hmask : (0xFFC : Offset).toNat = 0xFFC := rfl
  have hlt : a.toNat / 4 < 2 ^ 10 := by omega
  calc regIndex (a &&& 0xFFC)
      = (a.toNat &&& 0xFFC) / 2 ^ 2 := by rw [regIndex, BitVec.toNat_and, hmask]; rfl
    _ = a.toNat / 4 &&& (2 ^ 10 - 1) := Nat.and_div_two_pow
    _ = a.toNat / 4 := by rw [Nat.and_two_pow_sub_one_eq_mod, Nat.mod_eq_of_lt hlt]

theorem decode_alignAccess (acc : BusAccess) : decode (alignAccess acc) = decode acc := by
  cases acc <;> simp only [alignAccess, decode, regIndex_align]

theorem plainAccess_alignAccess (acc : BusAccess) (s : State) : plainAccess (alignAccess acc) s = plainAccess acc s := by
  cases acc <;> simp only [alignAccess, plainAccess, regIndex_align]

end Sys2Proof.Machine

open Sys2Proof Sys2Proof.Machine

/-- Settles O25: such a read is no RXDATA, so it shows the register, which is 0. -/
theorem unmappedOffsetsReadZero : Obligations.UnmappedOffsetsReadZero := by
  intro s a h
  have hport : regIndex a ≠ 0x0C := by
    intro hrxdata
    simp [hrxdata, mappedIndex] at h
  rw [hostAccess_read s hport, readWord_of_not_mapped s h]

/-- Settles O26: the decoder and the plain accesses read the word index alone. -/
theorem addressLowBitsAreIgnored : Obligations.AddressLowBitsAreIgnored := by
  intro s acc
  rw [hostAccess, hostAccess, decode_alignAccess, plainAccess_alignAccess]

end

section
/-! ## The step and two acceptances -/

namespace Sys2Proof.Machine

/-! ### Every access and every step answers -/

theorem hostAccess_answers (a : BusAccess) (s : State) : ∃ t, hostAccess a s = .next t := by
  unfold hostAccess
  split
  · rename_i i _
    cases i <;> exact ⟨_, rfl⟩
  · exact ⟨_, rfl⟩
  · exact ⟨_, rfl⟩
  · exact ⟨_, rfl⟩

theorem step_reset {s : State} (h : (hostNow s).rstN = false) : step s = .next (resetCycle s) := by
  rw [step, cycle, if_pos h]

theorem step_quiet {s : State} (h : (hostNow s).rstN = true) (ha : (hostNow s).access = none) :
    step s = .next (clockEdge s s) := by
  simp [step, cycle, hostPhase, h, ha]

theorem step_access {s t : State} {a : BusAccess} (h : (hostNow s).rstN = true) (ha : (hostNow s).access = some a)
    (ht : hostAccess a s = .next t) : step s = .next (clockEdge s t) := by
  simp [step, cycle, hostPhase, h, ha, ht]

/-! ### The clock edge -/

theorem transportPhase_idle {s0 : State} (s : State) (h : s0.xport.seq = .idle) : transportPhase s0 s = s := by
  rw [transportPhase, if_pos h]

theorem transportPhase_running {s0 : State} (s : State) (h : s0.xport.seq ≠ .idle) :
    transportPhase s0 s = transportStep s := by
  rw [transportPhase, if_neg h]

theorem enginePhase_idle {s0 : State} (s : State) (h : s0.engine.seq = .idle) : enginePhase s0 s = s := by
  rw [enginePhase, if_pos h]

/-- A running engine is told whether the transport was idle at the start of the cycle (R267). -/
theorem enginePhase_running {s0 : State} (s : State) (h : s0.engine.seq ≠ .idle) :
    enginePhase s0 s = engineStep (decide (s0.xport.seq = .idle)) s := by
  rw [enginePhase, if_neg h, beq_eq_decide]

theorem uartRx_tx (level : Bool) (s0 s : State) : (uartRx level s0 s).line.tx = s.line.tx := by
  rcases uartRx_cases level s0 s with ⟨-, h⟩ | ⟨-, h⟩ | ⟨c, -, -, h⟩
  · rw [h]
  · rw [h]
  · obtain ⟨-, -, htx, -⟩ := deliver_keeps s.params s0.line.rxq.length (byteOf c)
      { s.line with rx := (rxNext s.params s0.line.rate level s0.line.rx).rx }
    rw [h]
    exact htx

theorem uartTx_tx (s0 s : State) :
    (uartTx s0 s).line.tx = if s.line.tx = s0.line.tx then txNext s.params s0.line.tx else s.line.tx := by
  unfold uartTx
  split <;> rfl

/-- After the sequencers the clock edge moves the transmitter by one cycle, unless the cycle wrote it, and writes beside it the
receiver, its queue, the count and the inputs alone (R80, log 7). -/
theorem clockEdge_frame (s0 s : State) :
    ∃ rx rxq ovr,
      clockEdge s0 s =
        let u := enginePhase s0 (transportPhase s0 s)
        { u with
          line :=
            { u.line with
              tx := if u.line.tx = s0.line.tx then txNext u.params s0.line.tx else u.line.tx,
              rx := rx, rxq := rxq, rxqOvr := ovr },
          now := s0.now + 1, host := s0.host.tail, rxd := s0.rxd.tail, draws := s0.draws + 1 } := by
  obtain ⟨tx, rx, rxq, ovr, huart⟩ := uart_frame (rxdNow s0) s0 (enginePhase s0 (transportPhase s0 s))
  have htx := congrArg (fun t : State => t.line.tx) huart
  dsimp only at htx
  rw [uartRx_tx, uartTx_tx] at htx
  refine ⟨rx, rxq, ovr, ?_⟩
  rw [clockEdge]
  dsimp only
  rw [huart, htx]
  rfl

/-! ### POLL's words at acceptance -/

theorem srqWord_srqClear : srqWord srqClear = 0 := by decide

theorem pollStatusWord_kind (kind : BitVec 2) :
    pollStatusWord { pollClear with kind := kind } = kind.setWidth 32 <<< 13 := by
  revert kind
  decide

end Sys2Proof.Machine

open Sys2Proof Sys2Proof.Machine

/-- Settles O9: reset, the clock edge alone, or an access, which always answers, and the clock edge. -/
theorem everyStepAnswers : Obligations.EveryStepAnswers := by
  intro s
  cases hr : (hostNow s).rstN with
  | false => exact ⟨_, step_reset hr⟩
  | true =>
    cases ha : (hostNow s).access with
    | none => exact ⟨_, step_quiet hr ha⟩
    | some a =>
      obtain ⟨t, ht⟩ := hostAccess_answers a s
      exact ⟨_, step_access hr ha ht⟩

/-- Settles O6, from the three kinds of a step out of reset and the frame of the clock edge. -/
theorem stepRunsTheDecodedInstruction : Obligations.StepRunsTheDecodedInstruction := by
  have haccess : ∀ (s t : State) (acc : BusAccess) (rest : List HostCycle),
      s.host = ⟨true, some acc⟩ :: rest → hostAccess acc s = .next t → step s = .next (clockEdge s t) := by
    intro s t acc rest hhost ht
    have hnow : hostNow s = ⟨true, some acc⟩ := by rw [hostNow, hhost, List.headD_cons]
    exact step_access (by rw [hnow]) (by rw [hnow]) ht
  refine ⟨fun s t acc rest i hhost hi ht => haccess s t acc rest hhost ?_, haccess, fun s rest hhost => ?_,
    fun s t hx he => ?_, fun s t => ⟨transportPhase_idle t, transportPhase_running t, enginePhase_idle t,
      fun he hx => ?_, fun he hx => ?_⟩, fun s t u hu => ?_⟩
  · simp only [hostAccess, hi, ht]
  · have hnow : hostNow s = ⟨true, none⟩ := by rcases hhost with hhost | hhost <;> rw [hostNow, hhost] <;> rfl
    exact step_quiet (by rw [hnow]) (by rw [hnow])
  · obtain ⟨rx, rxq, ovr, hframe⟩ := clockEdge_frame s t
    rw [transportPhase_idle t hx, enginePhase_idle t he] at hframe
    rw [hframe]
    exact ⟨rfl, rfl, rfl, rfl, rfl, rfl, rfl, rfl, rfl, rfl, rfl, rfl, rfl, rfl, rfl, rfl, rfl, rfl⟩
  · rw [enginePhase_running t he, decide_eq_true hx]
  · rw [enginePhase_running t he, decide_eq_false hx]
  · subst hu
    obtain ⟨rx, rxq, ovr, hframe⟩ := clockEdge_frame s t
    exact ⟨_, rx, rxq, ovr, hframe, rfl⟩

/-- Settles O15: an idle block accepts WAKE, whose effect writes the transport latches. -/
theorem wakeAccepted : Obligations.WakeAccepted := by
  intro s hb
  rw [exec, execWake, command_accepted false wakeEffect s hb Bool.noConfusion]
  rfl

/-- Settles O18: an idle block accepts POLL, whose effect clears the words but for KIND. -/
theorem pollAccepted : Obligations.PollAccepted := by
  intro kind addr s hb
  refine ⟨pollEffect kind addr s, ?_, rfl, rfl, rfl, pollStatusWord_kind kind, rfl, srqWord_srqClear, rfl⟩
  rw [exec, execPoll, command_accepted false (pollEffect kind addr) s hb Bool.noConfusion]

end

section
/-! ## The receiver, its queue and the echo of the own frame -/

namespace Sys2Proof.Machine

/-! ### The receiver cycle by cycle -/

/-- Setting a data bit sets that bit and keeps the others. -/
theorem putBit_getLsbD (d : Char7) {i k : Nat} (level : Bool) (hk : k < 7) :
    (putBit d i level).getLsbD k = if k = i then level else d.getLsbD k := by
  have hone : (BitVec.ofNat 7 (2 ^ i)).getLsbD k = decide (k = i) := by
    rw [BitVec.getLsbD_ofNat, Nat.testBit_two_pow, decide_eq_true hk, Bool.true_and]
    exact decide_eq_decide.mpr eq_comm
  unfold putBit
  generalize BitVec.ofNat 7 (2 ^ i) = m at hone
  cases level
  · rw [if_neg Bool.noConfusion, BitVec.getLsbD_and, BitVec.getLsbD_not, hone, decide_eq_true hk]
    split <;> simp [*]
  · rw [if_pos rfl, BitVec.getLsbD_or, hone]
    split <;> simp [*]

/-- Before its sample point a frame counts the cycle (R228). -/
theorem rxNext_frame_waits {p : Params} {r : Rate} {i cyc : Nat} (h : cyc + 1 < sampleGap p r i) (rate : Rate)
    (level : Bool) (d : Char7) : rxNext p rate level (.frame r i cyc d) = ⟨.frame r i (cyc + 1) d, none⟩ := by
  rw [rxNext, if_pos h]

theorem rxNext_frame_samples {p : Params} {r : Rate} {i cyc : Nat} (h : sampleGap p r i ≤ cyc + 1) (rate : Rate)
    (level : Bool) (d : Char7) : rxNext p rate level (.frame r i cyc d) = rxSample r i d level := by
  rw [rxNext, if_neg (Nat.not_lt.mpr h)]

theorem rxSample_start (r : Rate) (d : Char7) (level : Bool) :
    rxSample r 0 d level = ⟨if level then .hunt else .frame r 1 0 d, none⟩ := by
  cases level <;> rfl

theorem rxSample_data (r : Rate) {i : Nat} (d : Char7) (level : Bool) (h1 : 1 ≤ i) (h7 : i ≤ 7) :
    rxSample r i d level = ⟨.frame r (i + 1) 0 (putBit d (i - 1) level), none⟩ := by
  rw [rxSample, if_neg (by omega), if_pos h7]

theorem rxSample_parity (r : Rate) (d : Char7) (level : Bool) : rxSample r 8 d level = ⟨.frame r 9 0 d, none⟩ := rfl

theorem rxSample_stop (r : Rate) (d : Char7) (level : Bool) :
    rxSample r 9 d level = ⟨if level then .hunt else .waitHigh, some d⟩ := rfl

/-! ### The receiver in the cycle -/

theorem uartTx_receiver (s0 s : State) :
    (uartTx s0 s).params = s.params ∧ (uartTx s0 s).line.rx = s.line.rx ∧ (uartTx s0 s).line.rxqOvr = s.line.rxqOvr := by
  rcases uartTx_cases s0 s with ⟨-, h⟩ | ⟨-, h⟩ <;> rw [h] <;> exact ⟨rfl, rfl, rfl⟩

/-- A receiver that the cycle wrote stays as written (log 7). -/
theorem uartRx_of_written {s0 s : State} (level : Bool) (h : s.line.rx ≠ s0.line.rx) : uartRx level s0 s = s := by
  rw [uartRx, if_neg h]

theorem uartRx_rx {s0 s : State} (level : Bool) (h : s.line.rx = s0.line.rx) :
    (uartRx level s0 s).line.rx = (rxNext s.params s0.line.rate level s0.line.rx).rx := by
  rcases uartRx_cases level s0 s with ⟨hne, -⟩ | ⟨-, hs⟩ | ⟨c, -, -, hs⟩
  · exact absurd h hne
  · rw [hs]
  · obtain ⟨-, hrx, -, -⟩ := deliver_keeps s.params s0.line.rxq.length (byteOf c)
      { s.line with rx := (rxNext s.params s0.line.rate level s0.line.rx).rx }
    rw [hs]
    exact hrx

theorem uartRx_queue_of_none {s0 s : State} {level : Bool} (h : s.line.rx = s0.line.rx)
    (hd : (rxNext s.params s0.line.rate level s0.line.rx).delivered = none) :
    (uartRx level s0 s).line.rxq = s.line.rxq ∧ (uartRx level s0 s).line.rxqOvr = s.line.rxqOvr := by
  simp [uartRx, h, hd]

/-- A delivered character is appended when the queue had room at the start of the cycle, else it is dropped with RXQ_OVR set
(R80, R230, log 8). -/
theorem uartRx_queue_of_some {s0 s : State} {level : Bool} {c : Char7} (h : s.line.rx = s0.line.rx)
    (hd : (rxNext s.params s0.line.rate level s0.line.rx).delivered = some c) :
    (s0.line.rxq.length < rxqDepth s.params →
      (uartRx level s0 s).line.rxq = s.line.rxq ++ [byteOf c] ∧ (uartRx level s0 s).line.rxqOvr = s.line.rxqOvr) ∧
    (rxqDepth s.params ≤ s0.line.rxq.length →
      (uartRx level s0 s).line.rxq = s.line.rxq ∧ (uartRx level s0 s).line.rxqOvr = true) := by
  refine ⟨fun hroom => ?_, fun hfull => ?_⟩
  · simp [uartRx, h, hd, deliver, hroom]
  · simp [uartRx, h, hd, deliver, Nat.not_lt.mpr hfull]

/-! ### The bits of a frame as they are sampled -/

theorem frameBits_start (c : Char7) : (frameBits c).getLsbD 0 = false := by
  rw [frameBits, BitVec.getLsbD_append]
  rfl

theorem frameBits_data (c : Char7) {i : Nat} (h : i < 7) : (frameBits c).getLsbD (i + 1) = c.getLsbD i := by
  rw [frameBits, BitVec.getLsbD_append, if_neg (by omega), Nat.add_sub_cancel, BitVec.getLsbD_append, if_pos h]

theorem frameBits_stop (c : Char7) : (frameBits c).getLsbD 9 = true := by
  simp only [frameBits, BitVec.getLsbD_append]
  rfl

/-- The character known after `k` data bits: its bits below `k`. -/
def firstBits (c : Char7) (k : Nat) : Char7 := (c.setWidth k).setWidth 7

theorem firstBits_getLsbD (c : Char7) (k : Nat) {i : Nat} (h : i < 7) :
    (firstBits c k).getLsbD i = (decide (i < k) && c.getLsbD i) := by
  simp [firstBits, BitVec.getLsbD_setWidth, h]

theorem firstBits_zero (c : Char7) : firstBits c 0 = 0 := by
  apply BitVec.eq_of_getLsbD_eq
  intro i hi
  simp [firstBits_getLsbD c 0 hi]

theorem firstBits_of_le (c : Char7) {k : Nat} (h : 7 ≤ k) : firstBits c k = c := by
  apply BitVec.eq_of_getLsbD_eq
  intro i hi
  simp [firstBits_getLsbD c k hi, hi.trans_le h]

/-- The sample of data bit `k` adds it to the bits below. -/
theorem putBit_firstBits (c : Char7) {k : Nat} :
    putBit (firstBits c k) k (c.getLsbD k) = firstBits c (k + 1) := by
  apply BitVec.eq_of_getLsbD_eq
  intro i hi
  rw [putBit_getLsbD _ _ hi, firstBits_getLsbD c k hi, firstBits_getLsbD c (k + 1) hi]
  split
  · simp [*]
  · have hlt : i < k ↔ i < k + 1 := by omega
    simp [hlt]

/-! ### The echo on a zero-delay line -/

theorem two_le_bitCyclesAt (p : Params) (rate : Rate) : 2 ≤ bitCyclesAt p rate := by
  cases rate <;> simp only [bitCyclesAt, bitCycles, clkHz] <;> omega

/-- The receiver in cycle `n` of its own frame of `c`: hunting; in the start bit up to half a bit; in a bit after the sample of the
one before, with the data so far; hunting again after the stop sample, which comes before the frame has ended. -/
inductive EchoRx (p : Params) (rate : Rate) (c : Char7) (n : Nat) : RxState → Prop where
  | begins (hn : n = 0) : EchoRx p rate c n .hunt
  | startBit (k : Nat) (hk : k < bitCyclesAt p rate / 2) (hn : n = 1 + k) : EchoRx p rate c n (.frame rate 0 k 0)
  | sampled (j k : Nat) (hj : j < 9) (hk : k < bitCyclesAt p rate)
      (hn : n = bitCyclesAt p rate / 2 + 1 + j * bitCyclesAt p rate + k) :
      EchoRx p rate c n (.frame rate (j + 1) k (firstBits c j))
  | ended (hn : bitCyclesAt p rate / 2 + 9 * bitCyclesAt p rate < n) : EchoRx p rate c n .hunt

/-- One cycle of the echo: the receiver samples bit `n / bc` of the frame, and delivers in the cycle of the stop sample alone. -/
theorem EchoRx.next {p : Params} {rate : Rate} {c : Char7} {n : Nat} {x : RxState} (h : EchoRx p rate c n x)
    (hn : n < 10 * bitCyclesAt p rate) :
    ∃ y, rxNext p rate ((frameBits c).getLsbD (n / bitCyclesAt p rate)) x =
        ⟨y, if n = bitCyclesAt p rate / 2 + 9 * bitCyclesAt p rate then some c else none⟩ ∧
      EchoRx p rate c (n + 1) y := by
  have hbc := two_le_bitCyclesAt p rate
  cases h with
  | begins h0 =>
    subst h0
    rw [Nat.zero_div, frameBits_start, if_neg (by omega)]
    exact ⟨_, rfl, .startBit 0 (by omega) rfl⟩
  | startBit k hk hnk =>
    rw [if_neg (by omega)]
    by_cases hwait : k + 1 < bitCyclesAt p rate / 2
    · exact ⟨_, rxNext_frame_waits hwait _ _ _, .startBit (k + 1) hwait (by omega)⟩
    · rw [Nat.div_eq_of_lt (by omega), frameBits_start, rxNext_frame_samples (Nat.not_lt.mp hwait), rxSample_start,
        ← firstBits_zero c]
      exact ⟨_, rfl, .sampled 0 0 (by omega) (by omega) (by omega)⟩
  | sampled j k hj hk hnk =>
    have hj8 : j * bitCyclesAt p rate ≤ 8 * bitCyclesAt p rate := Nat.mul_le_mul_right _ (by omega)
    by_cases hwait : k + 1 < bitCyclesAt p rate
    · rw [if_neg (by omega)]
      exact ⟨_, rxNext_frame_waits hwait _ _ _, .sampled j (k + 1) hj hwait (by omega)⟩
    have hpoint : n = (j + 1) * bitCyclesAt p rate + bitCyclesAt p rate / 2 := by
      rw [Nat.succ_mul]
      omega
    have hbit : n / bitCyclesAt p rate = j + 1 := by
      rw [hpoint, Nat.mul_comm, Nat.mul_add_div (by omega), Nat.div_eq_of_lt (by omega), Nat.add_zero]
    have hnext : n + 1 = bitCyclesAt p rate / 2 + 1 + (j + 1) * bitCyclesAt p rate + 0 := by omega
    rw [hbit, rxNext_frame_samples (Nat.not_lt.mp hwait)]
    rcases (by omega : j < 7 ∨ j = 7 ∨ j = 8) with hdata | rfl | rfl
    · have hj6 : j * bitCyclesAt p rate ≤ 6 * bitCyclesAt p rate := Nat.mul_le_mul_right _ (by omega)
      rw [if_neg (by omega), frameBits_data c hdata, rxSample_data rate _ _ (by omega) (by omega), Nat.add_sub_cancel,
        putBit_firstBits]
      exact ⟨_, rfl, .sampled (j + 1) 0 (by omega) (by omega) hnext⟩
    · have hall : firstBits c 7 = firstBits c 8 := by rw [firstBits_of_le c (by omega), firstBits_of_le c (by omega)]
      rw [if_neg (by omega), rxSample_parity, hall]
      exact ⟨_, rfl, .sampled 8 0 (by omega) (by omega) hnext⟩
    · rw [if_pos (by omega), frameBits_stop, rxSample_stop, firstBits_of_le c (by omega)]
      exact ⟨_, rfl, .ended (by omega)⟩
  | ended hend =>
    have hbit : n / bitCyclesAt p rate = 9 := Nat.div_eq_of_lt_le (by omega) (by omega)
    rw [if_neg (by omega), hbit, frameBits_stop]
    exact ⟨_, rfl, .ended (by omega)⟩

theorem loopStep_iterate_tx (p : Params) (rate : Rate) (x : TxState × RxState) (n : Nat) :
    ((loopStep p rate)^[n] x).1 = (txNext p)^[n] x.1 := by
  induction n with
  | zero => rfl
  | succ n ih => rw [Function.iterate_succ_apply', Function.iterate_succ_apply', loopStep, ih]

/-- The level in cycle `n` of the frame is its bit `n / bc` (R223). -/
theorem loopStep_iterate_level (p : Params) (rate : Rate) (c : Char7) {n : Nat} (hn : n < 10 * bitCyclesAt p rate) :
    txLevel ((loopStep p rate)^[n] (.frame rate (frameBits c) 0 0, .hunt)).1 =
      (frameBits c).getLsbD (n / bitCyclesAt p rate) := by
  rw [loopStep_iterate_tx, txNext_iterate_frame p rate (frameBits c) n hn, txLevel]

theorem loopStep_iterate_echoRx (p : Params) (rate : Rate) (c : Char7) {n : Nat} (hn : n < 10 * bitCyclesAt p rate) :
    EchoRx p rate c n ((loopStep p rate)^[n] (.frame rate (frameBits c) 0 0, .hunt)).2 := by
  induction n with
  | zero => exact .begins rfl
  | succ n ih =>
    have hn' := Nat.lt_of_succ_lt hn
    obtain ⟨y, hy, hecho⟩ := (ih hn').next hn'
    rwa [Function.iterate_succ_apply', loopStep, loopStep_iterate_level p rate c hn', hy]

/-- The own frame is delivered once, at the stop sample (R231). -/
theorem loopDelivers_frame (p : Params) (rate : Rate) (c : Char7) {n : Nat} (hn : n < 10 * bitCyclesAt p rate) :
    loopDelivers p rate (.frame rate (frameBits c) 0 0, .hunt) n =
      if n = bitCyclesAt p rate / 2 + 9 * bitCyclesAt p rate then some c else none := by
  obtain ⟨y, hy, -⟩ := (loopStep_iterate_echoRx p rate c hn).next hn
  rw [loopDelivers, loopStep_iterate_level p rate c hn, hy]

end Sys2Proof.Machine

open Sys2Proof Sys2Proof.Machine

/-- Settles O41: the samples of the receiver, its step in the cycle after the transmitter's, and the echo cycle by cycle. -/
theorem zeroDelayEchoIsDelivered : Obligations.ZeroDelayEchoIsDelivered := by
  refine ⟨fun p rate level => ⟨rfl, rfl, rfl, fun r i cyc gap d hgap => ?_⟩, fun s t u after hu hafter => ?_,
    fun s x rest hrxd => by rw [rxdNow, hrxd, List.headD_cons], fun p rate c n => loopDelivers_frame p rate c⟩
  · obtain rfl : gap = sampleGap p r i := hgap
    refine ⟨fun hwait => rxNext_frame_waits hwait rate level d, fun hpoint hi => ?_, fun hpoint h1 h7 => ?_,
      fun hpoint hi => ?_, fun hpoint hi => ?_⟩ <;> rw [rxNext_frame_samples hpoint]
    · rw [hi, rxSample_start]
    · exact ⟨_, rxSample_data r d level h1 h7, fun k hk => putBit_getLsbD d level hk⟩
    · rw [hi, rxSample_parity]
    · rw [hi, rxSample_stop]
  · have hedge : (clockEdge s t).line = (uartRx (rxdNow s) s (uartTx s u)).line := by rw [hu]; rfl
    obtain ⟨hparams, hrx, hovr⟩ := uartTx_receiver s u
    have hrxq := uartTx_rxq s u
    rw [← hparams] at hafter
    rw [hedge, hafter, ← hparams, ← hrx, ← hrxq, ← hovr]
    refine ⟨fun hw => ?_, uartRx_rx (rxdNow s), uartRx_queue_of_none, fun c h hd => ?_, fun c h hd => ?_⟩
    · rw [uartRx_of_written (rxdNow s) hw]
      exact ⟨rfl, rfl, rfl⟩
    · obtain ⟨hroom, -⟩ := uartRx_queue_of_some h hd
      exact hroom
    · obtain ⟨-, hfull⟩ := uartRx_queue_of_some h hd
      exact hfull

end

section
/-! ## The command words -/

namespace Sys2Proof

/-! ### The rows of the table of R102 -/

theorem opTable_op_bounds : ∀ row ∈ opTable, 1 ≤ row.op.toNat ∧ row.op.toNat ≤ 9 := by decide

/-- Every mask fixes OP, and the pattern holds the opcode there (R100, R102). -/
theorem opTable_fixes_op : ∀ row ∈ opTable, opOf row.mask = 0xF ∧ opOf row.pattern = row.op := by decide

theorem opTable_op_injective : ∀ row ∈ opTable, ∀ row' ∈ opTable, row.op = row'.op → row = row' := by decide

theorem opTable_mnemonic_injective :
    ∀ row ∈ opTable, ∀ row' ∈ opTable, row.mnemonic = row'.mnemonic → row = row' := by decide

/-- A word that matches a row has the row's opcode. -/
theorem opOf_of_match {row : OpRow} (hrow : row ∈ opTable) {w : Word} (h : w &&& row.mask = row.pattern) :
    opOf w = row.op := by
  obtain ⟨hmask, hpattern⟩ := opTable_fixes_op row hrow
  calc opOf w = opOf w &&& opOf row.mask := by rw [hmask]; exact BitVec.and_allOnes.symm
    _ = opOf (w &&& row.mask) := BitVec.extractLsb'_and.symm
    _ = row.op := by rw [h, hpattern]

/-! ### The two checks of a word -/

theorem opcodeAssigned_iff {w : Word} : opcodeAssigned w = true ↔ ∃ row ∈ opTable, row.op = opOf w := by
  simp only [opcodeAssigned, List.any_eq_true, beq_iff_eq]

theorem reservedClear_iff {w : Word} :
    reservedClear w = true ↔ ∃ row ∈ opTable, w &&& row.mask = row.pattern := by
  simp only [reservedClear, List.any_eq_true, Bool.and_eq_true, beq_iff_eq]
  exact ⟨fun ⟨row, hrow, _, h⟩ => ⟨row, hrow, h⟩, fun ⟨row, hrow, h⟩ => ⟨row, hrow, (opOf_of_match hrow h).symm, h⟩⟩

/-- No row has a reserved opcode (R103). -/
theorem opcodeAssigned_reserved {w : Word} (h : opOf w = 0 ∨ 0xA ≤ (opOf w).toNat) : opcodeAssigned w = false := by
  rw [← Bool.not_eq_true, opcodeAssigned_iff]
  rintro ⟨row, hrow, hop⟩
  obtain ⟨hlow, hhigh⟩ := opTable_op_bounds row hrow
  rw [hop] at hlow hhigh
  rcases h with h | h
  · simp [h] at hlow
  · omega

/-- Only the row of a word's opcode can clear its reserved bits (R104). -/
theorem reservedClear_mismatch {row : OpRow} (hrow : row ∈ opTable) {w : Word} (hop : opOf w = row.op)
    (h : w &&& row.mask ≠ row.pattern) : reservedClear w = false := by
  rw [← Bool.not_eq_true, reservedClear_iff]
  rintro ⟨row', hrow', hmatch⟩
  obtain rfl := opTable_op_injective row hrow row' hrow' (hop ▸ opOf_of_match hrow' hmatch)
  exact h hmatch

theorem wordWellFormed_of_match {row : OpRow} (hrow : row ∈ opTable) {w : Word} (h : w &&& row.mask = row.pattern) :
    wordWellFormed w = true := by
  rw [wordWellFormed, opcodeAssigned_iff.mpr ⟨row, hrow, (opOf_of_match hrow h).symm⟩,
    reservedClear_iff.mpr ⟨row, hrow, h⟩, Bool.and_self]

/-! ### What a word decodes to -/

theorem decodeCmd_badOpcode {w : Word} (h : opcodeAssigned w = false) : decodeCmd w = .error .badOpcode := by
  rw [decodeCmd, if_pos h]

theorem decodeCmd_reservedBits {w : Word} (hop : opcodeAssigned w = true) (h : reservedClear w = false) :
    decodeCmd w = .error .reservedBits := by
  rw [decodeCmd, if_neg (by simp [hop]), if_pos h]

theorem decodeCmd_wellFormed {w : Word} (h : wordWellFormed w = true) : decodeCmd w = .ok (instrOf w) := by
  obtain ⟨hop, hclear⟩ := Bool.and_eq_true_iff.mp h
  rw [decodeCmd, if_neg (by simp [hop]), if_neg (by simp [hclear])]

/-- A word is refused for its opcode, refused for a reserved bit, or matches a row and decodes to its fields. -/
theorem decodeCmd_cases (w : Word) :
    decodeCmd w = .error .badOpcode ∨ decodeCmd w = .error .reservedBits ∨
    ((∃ row ∈ opTable, w &&& row.mask = row.pattern) ∧ decodeCmd w = .ok (instrOf w)) := by
  cases hop : opcodeAssigned w with
  | false => exact .inl (decodeCmd_badOpcode hop)
  | true =>
    cases hclear : reservedClear w with
    | false => exact .inr (.inl (decodeCmd_reservedBits hop hclear))
    | true =>
      refine .inr (.inr ⟨reservedClear_iff.mp hclear, decodeCmd_wellFormed ?_⟩)
      rw [wordWellFormed, hop, hclear, Bool.and_self]

/-- The fields are read as an instruction of the row with the word's opcode (R101). -/
theorem instrOf_mnemonic {row : OpRow} (hrow : row ∈ opTable) {w : Word} (h : opOf w = row.op) :
    (instrOf w).mnemonic = row.mnemonic := by
  simp only [opTable, List.mem_cons, List.not_mem_nil, or_false] at hrow
  rcases hrow with rfl | rfl | rfl | rfl | rfl | rfl | rfl | rfl | rfl
  all_goals
    rw [instrOf, h]
    rfl

/-! ### The access that presents an instruction -/

/-- The fields of POLL read back from its word (R107, R108). -/
theorem instrOf_pollWord (kind : BitVec 2) (addr : Byte) : instrOf (pollWord kind addr) = .poll kind addr := by
  have hop : opOf (pollWord kind addr) = 9 := BitVec.extractLsb'_append_eq_right
  have hfields : (pollWord kind addr).extractLsb' 8 2 = kind ∧ (pollWord kind addr).extractLsb' 16 8 = addr := by
    unfold pollWord
    simp (disch := decide) only [BitVec.extractLsb'_append_eq_of_le]
    exact ⟨BitVec.extractLsb'_append_eq_right, BitVec.extractLsb'_append_eq_right⟩
  obtain ⟨hkind, haddr⟩ := hfields
  rw [instrOf, hop, hkind, haddr]
  rfl

/-- A command presented by a word that matches a row and reads as the command decodes back. -/
theorem decode_encode_command {i : Instr} {w : Word} (he : encode i = .write 0x000 w)
    (hrow : Laws.RowMatch.Statement i) (hi : instrOf w = i) :
    accessWellFormed (encode i) = true ∧ decode (encode i) = .ok i := by
  rw [Laws.RowMatch.Statement, he] at hrow
  rcases hrow with ⟨-, row, hmem, -, hmatch⟩ | ⟨haddr, -⟩
  · have hwf := wordWellFormed_of_match hmem hmatch
    rw [he]
    exact ⟨hwf, (decodeCmd_wellFormed hwf).trans (congrArg Except.ok hi)⟩
  · exact absurd haddr (by decide)

theorem decode_encode (i : Instr) : accessWellFormed (encode i) = true ∧ decode (encode i) = .ok i := by
  cases i with
  | setmode m => exact decode_encode_command rfl (Laws.RowMatch.setmode m) (by cases m <;> rfl)
  | busBegin => exact decode_encode_command rfl Laws.RowMatch.busBegin rfl
  | busEnd => exact decode_encode_command rfl Laws.RowMatch.busEnd rfl
  | setactive => exact decode_encode_command rfl Laws.RowMatch.setactive rfl
  | wake => exact decode_encode_command rfl Laws.RowMatch.wake rfl
  | sendcmd => exact decode_encode_command rfl Laws.RowMatch.sendcmd rfl
  | listen e => exact decode_encode_command rfl (Laws.RowMatch.listen e) (by cases e <;> rfl)
  | flush => exact decode_encode_command rfl Laws.RowMatch.flush rfl
  | poll k a => exact decode_encode_command rfl (Laws.RowMatch.poll k a) (instrOf_pollWord k a)
  | rxdata => exact ⟨rfl, rfl⟩
  | rxpeek => exact ⟨rfl, rfl⟩
  | rxavail => exact ⟨rfl, rfl⟩
  | clrerr v => exact ⟨rfl, rfl⟩

end Sys2Proof

open Sys2Proof Sys2Proof.Machine

/-- Settles O1: a command's word matches its row and reads back its operands; a port's access is its offset. -/
theorem decodeInvertsEncode : Obligations.DecodeInvertsEncode :=
  decode_encode

/-- Settles O2: a matched row gives the opcode, the opcode the mnemonic; and no two rows share a mnemonic. -/
theorem commandWordSelectsItsRow : Obligations.CommandWordSelectsItsRow := by
  intro row hrow w
  constructor
  · intro hmatch
    exact ⟨instrOf w, decodeCmd_wellFormed (wordWellFormed_of_match hrow hmatch),
      instrOf_mnemonic hrow (opOf_of_match hrow hmatch)⟩
  · rintro ⟨i, hi, hmnemonic⟩
    rcases decodeCmd_cases w with h | h | ⟨⟨row', hrow', hmatch⟩, h⟩
    · cases h.symm.trans hi
    · cases h.symm.trans hi
    · cases h.symm.trans hi
      have hname := instrOf_mnemonic hrow' (opOf_of_match hrow' hmatch)
      obtain rfl := opTable_mnemonic_injective row hrow row' hrow' (hmnemonic.symm.trans hname)
      exact hmatch

/-- Settles O3: each word is run through the decoder. -/
theorem specWordsDecode : Obligations.SpecWordsDecode :=
  ⟨by decide, by decide, by decide, by decide, by decide, by decide, by decide, by decide⟩

end

section
/-! ## The checks of a CMD write -/

namespace Sys2Proof.Machine

/-! ### What a CMD write does, by what its word decodes to -/

theorem decode_write_cmd {a : Offset} (w : Word) (ha : regIndex a = 0) : decode (.write a w) = decodeCmd w := by
  rw [decode, if_pos ha]

theorem hostAccess_badOpcode {a : Offset} {w : Word} (s : State) (ha : regIndex a = 0)
    (h : decodeCmd w = .error .badOpcode) : hostAccess (.write a w) s = .next (rejectWord causeBadOpcode s) := by
  simp only [hostAccess, decode_write_cmd w ha, h]

theorem hostAccess_reservedBits {a : Offset} {w : Word} (s : State) (ha : regIndex a = 0)
    (h : decodeCmd w = .error .reservedBits) :
    hostAccess (.write a w) s = .next (rejectWord causeReservedBits s) := by
  simp only [hostAccess, decode_write_cmd w ha, h]

theorem hostAccess_decoded {a : Offset} {w : Word} {i : Instr} (s : State) (ha : regIndex a = 0)
    (h : decodeCmd w = .ok i) : hostAccess (.write a w) s = exec i s := by
  simp only [hostAccess, decode_write_cmd w ha, h]

/-! ### Rejections -/

theorem rejects_reject (k : BitVec 3) (s : State) : Rejects (.next (reject k s)) s k := rfl

theorem rejectWord_busy (k : BitVec 3) {s : State} (h : busy s = true) : rejectWord k s = reject causeBusy s := by
  rw [rejectWord, if_pos h]

theorem rejectWord_idle (k : BitVec 3) {s : State} (h : busy s = false) : rejectWord k s = reject k s := by
  rw [rejectWord, if_neg (by simp [h])]

/-! ### The command that a word names -/

theorem setactiveEffect_keeps_rejection (s : State) :
    (setactiveEffect s).err.cmdErr = s.err.cmdErr ∧ (setactiveEffect s).err.errCause = s.err.errCause := by
  unfold setactiveEffect
  split <;> exact ⟨rfl, rfl⟩

/-- Executing the instruction of a row's word is the command frame, with the TXLEN check exactly for the words that use TXBUF, around
an effect that keeps CMD_ERR and ERR_CAUSE (R105, R343). -/
theorem exec_instrOf {row : OpRow} (hrow : row ∈ opTable) {w : Word} (h : opOf w = row.op) (s : State) :
    ∃ u f, (u = true ↔ usesTxbuf w) ∧ exec (instrOf w) s = .next (command u f s) ∧
      (f s).err.cmdErr = s.err.cmdErr ∧ (f s).err.errCause = s.err.errCause := by
  simp only [opTable, List.mem_cons, List.not_mem_nil, or_false] at hrow
  rw [instrOf, usesTxbuf, h]
  rcases hrow with rfl | rfl | rfl | rfl | rfl | rfl | rfl | rfl | rfl
  · exact ⟨false, _, by simp, rfl, rfl, rfl⟩
  · exact ⟨false, _, by simp, rfl, rfl, rfl⟩
  · exact ⟨false, _, by simp, rfl, rfl, rfl⟩
  · exact ⟨false, _, by simp, rfl, setactiveEffect_keeps_rejection s⟩
  · exact ⟨false, _, by simp, rfl, rfl, rfl⟩
  · exact ⟨true, _, by simp, rfl, rfl, rfl⟩
  · exact ⟨w.getLsbD 6, _, by simp, rfl, rfl, rfl⟩
  · exact ⟨false, _, by simp, rfl, rfl, rfl⟩
  · exact ⟨false, _, by simp, rfl, rfl, rfl⟩

/-- BUSY is the first check: it rejects a word whatever the word is (R105, R342). -/
theorem hostAccess_cmd_busy {a : Offset} (w : Word) {s : State} (ha : regIndex a = 0) (hb : busy s = true) :
    hostAccess (.write a w) s = .next (reject causeBusy s) := by
  rcases decodeCmd_cases w with h | h | ⟨⟨row, hrow, hmatch⟩, h⟩
  · rw [hostAccess_badOpcode s ha h, rejectWord_busy _ hb]
  · rw [hostAccess_reservedBits s ha h, rejectWord_busy _ hb]
  · obtain ⟨u, f, -, hexec, -⟩ := exec_instrOf hrow (opOf_of_match hrow hmatch) s
    rw [hostAccess_decoded s ha h, hexec, command_busy u f s hb]

end Sys2Proof.Machine

open Sys2Proof Sys2Proof.Machine

/-- Settles O4: BUSY rejects any word; else the decoder's two checks; else the command frame of the word. -/
theorem commandChecksInOrder : Obligations.CommandChecksInOrder := by
  intro s a w ha
  refine ⟨fun hb => ?_, fun hb hop => ?_, fun row hrow hb hop hmismatch => ?_, fun row hrow hb hmatch huses hlen => ?_,
    fun row hrow hb hmatch hok => ?_⟩
  · rw [hostAccess_cmd_busy w ha hb]
    exact rejects_reject causeBusy s
  · rw [hostAccess_badOpcode s ha (decodeCmd_badOpcode (opcodeAssigned_reserved hop)), rejectWord_idle _ hb]
    exact rejects_reject causeBadOpcode s
  · have hassigned := opcodeAssigned_iff.mpr ⟨row, hrow, hop.symm⟩
    have hclear := reservedClear_mismatch hrow hop hmismatch
    rw [hostAccess_reservedBits s ha (decodeCmd_reservedBits hassigned hclear), rejectWord_idle _ hb]
    exact rejects_reject causeReservedBits s
  · have hdecode := decodeCmd_wellFormed (wordWellFormed_of_match hrow hmatch)
    obtain ⟨u, f, hu, hexec, -⟩ := exec_instrOf hrow (opOf_of_match hrow hmatch) s
    rw [hostAccess_decoded s ha hdecode, hexec, hu.mpr huses, command_badTxlen f s hb hlen]
    exact rejects_reject causeBadTxlen s
  · have hdecode := decodeCmd_wellFormed (wordWellFormed_of_match hrow hmatch)
    obtain ⟨u, f, hu, hexec, hkept⟩ := exec_instrOf hrow (opOf_of_match hrow hmatch) s
    have hlen : u = true → s.regs.txlen.toNat ≤ 16 := fun h => Nat.not_lt.mp fun hl => hok ⟨hu.mp h, hl⟩
    rw [command_accepted u f s hb hlen] at hexec
    exact ⟨instrOf w, f s, hdecode, instrOf_mnemonic hrow (opOf_of_match hrow hmatch), hostAccess_decoded s ha hdecode,
      hexec, hkept⟩

end

section
/-! ## The parity of a frame -/

namespace Sys2Proof.Machine

/-- The number of true values in a list is odd exactly when their exclusive or is true. -/
theorem countP_mod_two (p : Nat → Bool) (l : List Nat) :
    l.countP p % 2 = (l.foldr (fun i b => p i ^^ b) false).toNat := by
  induction l with
  | nil => rfl
  | cons i l ih =>
    rw [List.countP_cons, List.foldr_cons, Nat.add_mod, ih]
    cases p i <;> cases l.foldr (fun i b => p i ^^ b) false <;> rfl

theorem frameBits_parity (c : Char7) : (frameBits c).getLsbD 8 = parityBit c := by
  simp only [frameBits, BitVec.getLsbD_append, Nat.reduceLT, Nat.reduceSub, if_false, if_true, BitVec.getLsbD_ofBool]
  exact Bool.true_and _

/-- The parity bit completes the data bits to an even number of ones (R112). -/
theorem frameBits_even (c : Char7) : ((List.range 8).countP fun i => (frameBits c).getLsbD (i + 1)) % 2 = 0 := by
  have hbits : ((List.range 8).foldr (fun i b => (frameBits c).getLsbD (i + 1) ^^ b) false) =
      (parityBit c ^^ parityBit c) := by
    have hrange : List.range 8 = [0, 1, 2, 3, 4, 5, 6, 7] := rfl
    simp (disch := decide) only [hrange, List.foldr_cons, List.foldr_nil, frameBits_data, Nat.reduceAdd,
      frameBits_parity, Bool.xor_false]
    simp only [parityBit, Bool.xor_assoc]
  rw [countP_mod_two, hbits, Bool.xor_self]
  rfl

end Sys2Proof.Machine

open Sys2Proof Sys2Proof.Machine

/-- Settles O39: the fields of the frame, and the parity that the parity bit completes. -/
theorem characterFrame : Obligations.CharacterFrame :=
  fun c => ⟨frameBits_start c, fun i => frameBits_data c i.isLt, frameBits_even c, frameBits_stop c⟩

end

section
/-! ## The Receive Buffer: its operations, a run of appends, and FLUSH -/

namespace Sys2Proof.Machine

theorem fifoRead_empty {f : Fifo} (h : f.q = []) : fifoRead f = { q := [], ovf := false } := by
  rw [fifoRead, h, List.drop_nil]

theorem fifoRead_cons {f : Fifo} {y : Byte} {rest : List Byte} (h : f.q = y :: rest) :
    fifoRead f = { q := rest, ovf := false } := by
  rw [fifoRead, h, List.drop_one, List.tail_cons]

/-- The closed form of a run of appends, for any buffer the run starts from: the first byte joins a buffer with room, and is
dropped by a full one, which the rest of the run leaves full (R140, R141). -/
theorem foldl_fifoAppend (xs : List Byte) {f : Fifo} (h : f.q.length ≤ 64) :
    xs.foldl (fun g x => fifoAppend x g) f =
      { q := (f.q ++ xs).take 64, ovf := f.ovf || decide (64 < f.q.length + xs.length) } := by
  induction xs generalizing f with
  | nil => simp [List.take_of_length_le h, Nat.not_lt.mpr h]
  | cons x xs ih =>
    rcases h.lt_or_eq with hroom | hfull
    · have hlen : (f.q ++ [x]).length ≤ 64 := by simpa using hroom
      rw [List.foldl_cons, fifoAppend_room x f hroom, ih hlen]
      simp [Nat.add_assoc, Nat.add_comm 1]
    · rw [List.foldl_cons, fifoAppend_full x f hfull.ge, ih (f := { q := f.q, ovf := true }) h]
      simp [List.take_left' hfull, hfull]

end Sys2Proof.Machine

open Sys2Proof Sys2Proof.Machine

/-- Settles O30, from the closed form of a run of appends. -/
theorem overflowKeepsTheFirst64 : Obligations.OverflowKeepsTheFirst64 :=
  fun xs _ h => foldl_fifoAppend xs h

/-- Settles O14: an idle block accepts FLUSH, whose effect is FLUSH_Q. -/
theorem flushResult : Obligations.FlushResult := by
  intro s hb
  rw [exec, execFlush, command_accepted false flushQ s hb Bool.noConfusion]
  rfl

/-- Settles O29: APPEND and READ by whether the buffer is full or empty, the other operations by their definitions. -/
theorem receiveBufferOperations : Obligations.ReceiveBufferOperations :=
  fun f x p => ⟨fun h => fifoAppend_full x f h.ge, fifoAppend_room x f, fifoRead_empty, fun _ _ => fifoRead_cons, rfl, rfl,
    fifoStrip_ovf p f⟩

end

section
/-! ## What a step does to the mode, the transmitter and the Receive Buffer -/

namespace Sys2Proof.Machine

/-! ### The transport -/

/-- What a transport step can do to the mode, the transmitter and the Receive Buffer, by the state that steps: X_WAKE turns to
Transmitting, X_BREAK and X_WRITE may start a transmission, X_LSTART turns to Listening, X_LISTEN writes the buffer, and no state
does more (R178, R179, R181). -/
inductive TransportEffect (s t : State) : Prop where
  | wakes (hx : s.xport.seq = .wake) (hmode : t.line.mode = .transmitting) (hfifo : t.fifo = s.fifo)
  | transmits (hx : s.xport.seq = .brk ∨ s.xport.seq = .write) (hmode : t.line.mode = s.line.mode)
      (hfifo : t.fifo = s.fifo)
  | turnsToListen (hx : s.xport.seq = .lstart) (hmode : t.line.mode = .listening) (htx : t.line.tx = s.line.tx)
      (hfifo : t.fifo = s.fifo)
  | listens (hx : s.xport.seq = .listen) (hmode : t.line.mode = s.line.mode) (htx : t.line.tx = s.line.tx)
  | leaves (hmode : t.line.mode = s.line.mode) (htx : t.line.tx = s.line.tx) (hfifo : t.fifo = s.fifo)

theorem transportStep_effect (s : State) : TransportEffect s (transportStep s) := by
  unfold transportStep
  cases hx : s.xport.seq with
  | idle => exact .leaves rfl rfl rfl
  | wake =>
    refine .wakes hx ?_ ?_ <;> dsimp only [stepWake] <;> split <;> rfl
  | brk =>
    refine .transmits (.inl hx) ?_ ?_ <;> dsimp only [stepBreak] <;> repeat' split
    all_goals rfl
  | mark =>
    refine .leaves ?_ ?_ ?_ <;> dsimp only [stepMark] <;> split <;> rfl
  | write =>
    refine .transmits (.inr hx) ?_ ?_ <;> dsimp only [stepWrite] <;> repeat' split
    all_goals rfl
  | lstart => exact .turnsToListen hx rfl (by simp [stepLstart, setModeLine_open]) rfl
  | listen =>
    refine .listens hx ?_ ?_ <;> dsimp only [stepListen] <;> repeat' split
    all_goals simp

/-- The transport phase is a transport step when step 1 left the transport, for an idle transport steps to itself (R170). -/
theorem transportPhase_eq_transportStep {s0 s : State} (h : s.xport = s0.xport) :
    transportPhase s0 s = transportStep s := by
  by_cases hx : s0.xport.seq = .idle
  · rw [transportPhase_idle s hx, transportStep, h, hx]
  · exact transportPhase_running s hx

/-! ### The engine -/

/-- The engine empties the Receive Buffer or leaves it (R252, R254, R263). -/
theorem engineStep_fifo (xIdle : Bool) (s : State) :
    (engineStep xIdle s).fifo = s.fifo ∨ (engineStep xIdle s).fifo = fifoFlush := by
  unfold engineStep
  cases s.engine.seq with
  | idle => exact .inl rfl
  | start =>
    dsimp only [stepStart]
    split <;> exact .inr rfl
  | issueSend =>
    dsimp only [stepIssueSend]
    split <;> exact .inl rfl
  | issueCheck =>
    cases xIdle
    · exact .inl rfl
    · refine .inr ?_
      simp only [if_true, stepIssueCheck]
      split <;> rfl
  | readyListen =>
    dsimp only [stepReadyListen]
    split <;> exact .inl rfl
  | readyCheck =>
    cases xIdle
    · exact .inl rfl
    · refine .inr ?_
      simp only [if_true, stepReadyCheck]
      split <;> rfl
  | dataSend =>
    dsimp only [stepDataSend, nextBlock, failBlock, setBlkTries]
    repeat' split
    all_goals exact .inl rfl
  | dataCheck =>
    cases xIdle
    · exact .inl rfl
    · refine .inr ?_
      simp only [if_true, stepDataCheck, nextBlock, storeFields]
      repeat' split
      all_goals rfl
  | convert =>
    dsimp only [stepConvert, setBank]
    repeat' split
    all_goals exact .inl rfl
  | finish => exact .inr rfl

theorem enginePhase_fifo_length_le (s0 s : State) : (enginePhase s0 s).fifo.q.length ≤ s.fifo.q.length := by
  unfold enginePhase
  split
  · exact Nat.le_refl _
  · rcases engineStep_fifo (s0.xport.seq == .idle) s with h | h <;> rw [h]
    exact Nat.zero_le _

/-! ### The host access -/

/-- Only a single-cycle command writes the line (R84, R172, R190). -/
theorem hostAccess_line {a : BusAccess} {s u : State} (hu : hostAccess a s = .next u) :
    u.line = s.line ∨ (busy s = false ∧ SingleCycleEffect a s u) := by
  rcases hostAccess_cases hu with ⟨k, -, rfl⟩ | ⟨hb, e⟩ | ⟨-, e⟩ | ⟨r, rfl⟩ | ⟨-, r, rfl⟩ | rfl | ⟨r, rfl⟩ | rfl
  · exact .inl rfl
  · exact .inr ⟨hb, e⟩
  · obtain ⟨hline, -⟩ := e.starts
    exact .inl hline
  all_goals exact .inl rfl

/-- No access puts a byte into the Receive Buffer. -/
theorem hostAccess_fifo_length_le {a : BusAccess} {s u : State} (hu : hostAccess a s = .next u) :
    u.fifo.q.length ≤ s.fifo.q.length := by
  rcases hostAccess_cases hu with ⟨k, -, rfl⟩ | ⟨-, e⟩ | ⟨-, e⟩ | ⟨r, rfl⟩ | ⟨-, r, rfl⟩ | rfl | ⟨r, rfl⟩ | rfl
  · exact Nat.le_refl _
  · cases e with
    | flush => exact Nat.zero_le _
    | setactive =>
      unfold setactiveEffect
      split <;> exact Nat.le_refl _
    | _ => exact Nat.le_refl _
  · cases e <;> exact Nat.le_refl _
  · exact Nat.le_refl _
  · exact (List.drop_sublist 1 s.fifo.q).length_le
  all_goals exact Nat.le_refl _

/-! ### The step -/

/-- A step out of reset is the clock edge from a state that step 1 answers: on a busy block one with the same run, on an idle block
the state itself or what an access makes of it (R80, R84). -/
theorem step_running {s t : State} (h : step s = .next t) (hrun : (hostNow s).rstN = true) :
    ∃ u, t = clockEdge s u ∧ (busy s = true → SameRun s u) ∧
      (u = s ∨ ∃ a, (hostNow s).access = some a ∧ hostAccess a s = .next u) := by
  rcases step_cases h with ⟨hreset, -⟩ | ⟨-, -, rfl⟩ | ⟨a, u, -, ha, hu, rfl⟩
  · simp [hrun] at hreset
  · exact ⟨s, rfl, fun _ => .refl s, .inl rfl⟩
  · exact ⟨u, rfl, fun hb => hostAccess_busy_sameRun hb hu, .inr ⟨a, ha, hu⟩⟩

/-- The engine and the UART leave the mode as the transport left it (R172). -/
theorem clockEdge_mode (s0 s : State) : (clockEdge s0 s).line.mode = (transportPhase s0 s).line.mode := by
  obtain ⟨rx, rxq, ovr, hframe⟩ := clockEdge_frame s0 s
  rw [hframe]
  dsimp only
  rw [enginePhase_line]

/-- The UART leaves the Receive Buffer as the sequencers left it. -/
theorem clockEdge_fifo (s0 s : State) :
    (clockEdge s0 s).fifo = (enginePhase s0 (transportPhase s0 s)).fifo := by
  obtain ⟨rx, rxq, ovr, hframe⟩ := clockEdge_frame s0 s
  rw [hframe]

/-- The UART starts no transmission: after an idle transmitter only step 1 and the transport can have started one (R223). -/
theorem clockEdge_tx_of_idle {s0 : State} (s : State) (h : s0.line.tx = .idle) :
    (clockEdge s0 s).line.tx = (transportPhase s0 s).line.tx := by
  obtain ⟨rx, rxq, ovr, hframe⟩ := clockEdge_frame s0 s
  rw [hframe]
  dsimp only
  rw [enginePhase_line, h, txNext_idle]
  split
  · exact Eq.symm ‹_›
  · rfl

/-- On a busy block the step's effect on the mode, and on the buffer and the transmitter before the engine and the UART, is the
transport's. -/
theorem transportPhase_effect_of_sameRun {s u : State} (h : SameRun s u) :
    TransportEffect s (transportPhase s u) := by
  obtain ⟨-, hfifo, hline, hxport, -⟩ := h
  rw [transportPhase_eq_transportStep hxport.symm]
  cases transportStep_effect u with
  | wakes hx hm hf => exact .wakes (hxport ▸ hx) hm (hf.trans hfifo.symm)
  | transmits hx hm hf => exact .transmits (hxport ▸ hx) (hline ▸ hm) (hf.trans hfifo.symm)
  | turnsToListen hx hm ht hf => exact .turnsToListen (hxport ▸ hx) hm (hline ▸ ht) (hf.trans hfifo.symm)
  | listens hx hm ht => exact .listens (hxport ▸ hx) (hline ▸ hm) (hline ▸ ht)
  | leaves hm ht hf => exact .leaves (hline ▸ hm) (hline ▸ ht) (hf.trans hfifo.symm)

/-- The mode a single-cycle command leaves, where it changes it (R173 to R176). -/
theorem SingleCycleEffect.mode_change {a : BusAccess} {s t : State} (e : SingleCycleEffect a s t)
    (h : t.line.mode ≠ s.line.mode) :
    (∃ m, decode a = .ok (.setmode m) ∧ t.line.mode = m) ∨
    (decode a = .ok .busBegin ∧ t.line.mode = .holding) ∨
    (decode a = .ok .busEnd ∧ t.line.mode = .disabled) ∨
    (decode a = .ok .setactive ∧ s.line.owner = false ∧ t.line.mode = .holding) := by
  cases e with
  | setmode m hd => exact .inl ⟨m, hd, setModeLine_mode m s.line⟩
  | busBegin hd => exact .inr (.inl ⟨hd, rfl⟩)
  | busEnd hd => exact .inr (.inr (.inl ⟨hd, rfl⟩))
  | setactive hd =>
    rw [setactiveEffect] at h ⊢
    cases ho : s.line.owner with
    | false => exact .inr (.inr (.inr ⟨hd, rfl, by simp⟩))
    | true => simp [ho] at h
  | flush => exact absurd rfl h

/-- On a safe idle block step 1 starts no transmission (R191). -/
theorem LineSafe.hostAccess_tx {a : BusAccess} {s u : State} (h : LineSafe s) (hb : busy s = false)
    (hu : hostAccess a s = .next u) : u.line.tx = .idle := by
  have hquiet := h.lineQuiet_of_not_busy hb
  rcases hostAccess_line hu with hline | ⟨-, e⟩
  · rw [hline]
    exact hquiet.txIdle
  · exact (e.lineQuiet hquiet).txIdle

end Sys2Proof.Machine

open Sys2Proof Sys2Proof.Machine

/-- Settles O55: a busy block does what its transport state does, and on an idle block neither step 1 nor the clock edge starts a
transmission or fills the buffer; the mode of what is in flight is the invariant of O57. -/
theorem halfDuplex : Obligations.HalfDuplex := by
  intro s t h hstep hrun
  have hsafe : LineSafe t := stepKeepsLineSafe s t h hstep
  obtain ⟨u, rfl, hsame, hstep1⟩ := step_running hstep hrun
  refine ⟨fun htx htx' => ⟨?_, hsafe.transmitting (hsafe.inFlight htx')⟩, fun hlen => ?_⟩
  · rw [clockEdge_tx_of_idle u htx] at htx'
    cases hb : busy s with
    | false =>
      obtain ⟨hx, -⟩ := idle_of_not_busy hb
      rw [transportPhase_idle u hx] at htx'
      rcases hstep1 with rfl | ⟨a, -, hu⟩
      · exact absurd htx htx'
      · exact absurd (h.hostAccess_tx hb hu) htx'
    | true =>
      cases transportPhase_effect_of_sameRun (hsame hb) with
      | wakes hx => exact .inl hx
      | transmits hx => exact .inr hx
      | turnsToListen _ _ ht => exact absurd (ht.trans htx) htx'
      | listens _ _ ht => exact absurd (ht.trans htx) htx'
      | leaves _ ht => exact absurd (ht.trans htx) htx'
  · have hphase : s.fifo.q.length < (transportPhase s u).fifo.q.length := by
      rw [clockEdge_fifo] at hlen
      exact hlen.trans_le (enginePhase_fifo_length_le s _)
    have hlisten : s.xport.seq = .listen := by
      cases hb : busy s with
      | false =>
        obtain ⟨hx, -⟩ := idle_of_not_busy hb
        rw [transportPhase_idle u hx] at hphase
        rcases hstep1 with rfl | ⟨a, -, hu⟩
        · exact absurd hphase (Nat.lt_irrefl _)
        · exact absurd hphase (hostAccess_fifo_length_le hu).not_gt
      | true =>
        cases transportPhase_effect_of_sameRun (hsame hb) with
        | listens hx => exact hx
        | wakes _ _ hf => simp [hf] at hphase
        | transmits _ _ hf => simp [hf] at hphase
        | turnsToListen _ _ _ hf => simp [hf] at hphase
        | leaves _ _ hf => simp [hf] at hphase
    exact ⟨hlisten, h.listening hlisten⟩

/-- Settles O54: on a busy block only X_WAKE and X_LSTART write the mode, on an idle one only a single-cycle command does. -/
theorem modeChangesOnlyAsTheSpecSays : Obligations.ModeChangesOnlyAsTheSpecSays := by
  intro s t hstep hrun hmode
  obtain ⟨u, rfl, hsame, hstep1⟩ := step_running hstep hrun
  rw [clockEdge_mode] at hmode ⊢
  cases hb : busy s with
  | true =>
    cases transportPhase_effect_of_sameRun (hsame hb) with
    | wakes hx hm => exact .inl ⟨hx, hm⟩
    | turnsToListen hx hm => exact .inr (.inl ⟨hx, hm⟩)
    | transmits _ hm => exact absurd hm hmode
    | listens _ hm => exact absurd hm hmode
    | leaves hm => exact absurd hm hmode
  | false =>
    obtain ⟨hx, -⟩ := idle_of_not_busy hb
    rw [transportPhase_idle u hx] at hmode ⊢
    rcases hstep1 with rfl | ⟨a, ha, hu⟩
    · exact absurd rfl hmode
    · refine .inr (.inr ⟨rfl, a, ha, ?_⟩)
      rcases hostAccess_line hu with hline | ⟨-, e⟩
      · exact absurd (congrArg Line.mode hline) hmode
      · exact e.mode_change hmode

end

section
/-! ## The strip -/

namespace Sys2Proof.Machine

/-- The test that the strip makes at position `i`: the pattern stands there (R9, R182). -/
theorem slice_eq_iff_stands_at {p : List Byte} (hp : p ≠ []) (s : List Byte) (i : Nat) :
    (p.length + i ≤ s.length ∧ slice s i (p.length + i) = p) ↔ p <+: s.drop i := by
  have hpos : 0 < p.length := List.length_pos_iff.mpr hp
  rw [slice, List.drop_take, Nat.add_sub_cancel]
  constructor
  · rintro ⟨-, h⟩
    have hcut := List.take_append_drop p.length (s.drop i)
    rw [h] at hcut
    exact ⟨_, hcut⟩
  · rintro ⟨rest, hrest⟩
    have hlen := congrArg List.length hrest
    rw [List.length_append, List.length_drop] at hlen
    rw [← hrest, List.take_left]
    exact ⟨by omega, rfl⟩

/-- The strip of a pattern, by where the pattern stands (R182). -/
theorem stripEcho_eq {p : List Byte} (hp : p ≠ []) (s : List Byte) :
    stripEcho p s =
      if p <+: s then s.drop p.length
      else if p <+: s.drop 1 then s.take 1 ++ s.drop (p.length + 1) else s :=
  if_congr (slice_eq_iff_stands_at hp s 0) rfl (if_congr (slice_eq_iff_stands_at hp s 1) rfl rfl)

theorem stripEcho_at_0 {p : List Byte} (hp : p ≠ []) (rest : List Byte) : stripEcho p (p ++ rest) = rest := by
  rw [stripEcho_eq hp, if_pos ⟨rest, rfl⟩, List.drop_left]

theorem stripEcho_at_1 {p : List Byte} (hp : p ≠ []) {x : Byte} {rest : List Byte} (h : ¬ p <+: x :: (p ++ rest)) :
    stripEcho p (x :: (p ++ rest)) = x :: rest := by
  rw [stripEcho_eq hp, if_neg h, List.drop_one, List.tail_cons, if_pos ⟨rest, rfl⟩, List.drop_succ_cons,
    List.drop_left]
  rfl

theorem stripEcho_absent {p : List Byte} (hp : p ≠ []) {s : List Byte} (h0 : ¬ p <+: s)
    (h1 : ¬ ∃ x rest, s = x :: (p ++ rest)) : stripEcho p s = s := by
  have hdrop : ¬ p <+: s.drop 1 := by
    rintro ⟨rest, hrest⟩
    cases s with
    | nil => exact hp (List.append_eq_nil_iff.mp hrest).1
    | cons x s => exact h1 ⟨x, rest, by rw [hrest, List.drop_one, List.tail_cons]⟩
  rw [stripEcho_eq hp, if_neg h0, if_neg hdrop]

end Sys2Proof.Machine

open Sys2Proof Sys2Proof.Machine

/-- Settles O31, by where the pattern stands: at position 0, at position 1, or at neither. -/
theorem stripRemovesOneLeadingEcho : Obligations.StripRemovesOneLeadingEcho := by
  intro p f hp
  refine ⟨fifoStrip_ovf p f, fun rest hq => ?_, fun x rest h0 hq => ?_, fun h0 h1 => stripEcho_absent hp h0 h1⟩
  · rw [fifoStrip_q, hq, stripEcho_at_0 hp]
  · rw [hq] at h0
    rw [fifoStrip_q, hq, stripEcho_at_1 hp h0]

end

section
/-! ## The single-cycle commands, the ports and CLRERR -/

namespace Sys2Proof.Machine

/-! ### SET_MODE by whether the line is open -/

/-- SET_MODE to an open mode starts the receiver of a closed line (R171, R172). -/
theorem setModeLine_opens {m : BusMode} {l : Line} (hm : m ≠ .disabled) (hl : l.mode = .disabled) :
    setModeLine m l = { l with mode := m, rx := .waitHigh } := by
  rw [setModeLine_open m l hm, if_pos hl]

/-- SET_MODE between open modes writes the mode alone (R172). -/
theorem setModeLine_stays_open {m : BusMode} {l : Line} (hm : m ≠ .disabled) (hl : l.mode ≠ .disabled) :
    setModeLine m l = { l with mode := m } := by
  rw [setModeLine_open m l hm, if_neg hl]

/-- A command that reads no TXBUF has its effect on an idle block (R105). -/
theorem command_idle (f : State → State) {s : State} (h : busy s = false) : command false f s = f s :=
  command_accepted false f s h Bool.noConfusion

/-! ### The ports -/

theorem decode_rxdata {a : Offset} (h : regIndex a = 0x0C) : decode (.read a) = .ok .rxdata := by
  simp [decode, h]

theorem decode_rxpeek {a : Offset} (h : regIndex a = 0x0D) : decode (.read a) = .ok .rxpeek := by
  simp [decode, h]

theorem decode_rxavail {a : Offset} (h : regIndex a = 0x0E) : decode (.read a) = .ok .rxavail := by
  simp [decode, h]

theorem decode_clrerr {a : Offset} (v : Word) (h : regIndex a = 1) : decode (.write a v) = .ok (.clrerr v) := by
  simp [decode, h]

theorem peekWord_empty {f : Fifo} (h : f.q = []) : peekWord f = 0x00000100 := by
  rw [peekWord, h]
  rfl

theorem peekWord_cons {f : Fifo} {x : Byte} {rest : List Byte} (h : f.q = x :: rest) : peekWord f = x.setWidth 32 := by
  rw [peekWord, h]

theorem execRxdata_busy {s : State} (h : busy s = true) : execRxdata s = .next { s with rdata := 0x00000100 } := by
  rw [execRxdata, rxdataWord, if_pos h, if_pos h]
  rfl

theorem execRxdata_idle {s : State} (h : busy s = false) :
    execRxdata s = .next { s with rdata := peekWord s.fifo, fifo := fifoRead s.fifo } := by
  simp [execRxdata, rxdataWord, h]

end Sys2Proof.Machine

open Sys2Proof Sys2Proof.Machine

/-- Settles O5: STATUS decodes to CLRERR, whose two cases are those of bit 7. -/
theorem clrerrClearsTheRejection : Obligations.ClrerrClearsTheRejection := by
  refine fun v s a => ⟨decode_clrerr v, fun h7 => ?_, fun h7 => ?_⟩
  · rw [exec, execClrerr, if_pos h7]
    rfl
  · rw [exec, execClrerr, h7, if_neg Bool.noConfusion]

/-- Settles O10: SET_MODE by whether the line is open and whether it is to be. -/
theorem setmodeResult : Obligations.SetmodeResult := by
  refine fun m s hb => ⟨setMode m s, ?_, rfl, fun hl hm => ?_, fun hl hm => setModeLine_opens hm hl,
    fun hl hm => setModeLine_stays_open hm hl, fun hl hm => ?_⟩
  · rw [exec, execSetmode, command_idle _ hb]
  · rw [hm]
    exact setModeLine_closed s.line hl
  · rw [hm]
    exact setModeLine_close s.line hl

/-- Settles O11: SET_MODE(1), then the activation. -/
theorem beginResult : Obligations.BeginResult := by
  refine fun s hb => ⟨activate (setMode .holding s), ?_, rfl, ?_, ?_⟩
  · rw [exec, execBegin, command_idle _ hb]
  · simp
  · simp [setModeLine_open]

/-- Settles O12: SET_MODE(0) of a closed or an open line, then the release. -/
theorem endResult : Obligations.EndResult := by
  refine fun s hb => ⟨endEffect s, ?_, rfl, fun hl => ?_, fun hl => ?_⟩
  · rw [exec, execEnd, command_idle _ hb]
  · rw [endEffect, setModeLine_closed s.line hl]
  · rw [endEffect, setModeLine_close s.line hl]

/-- Settles O13: with `owner` set the activation alone, else BEGIN's effect. -/
theorem setactiveResult : Obligations.SetactiveResult := by
  refine fun s hb => ⟨setactiveEffect s, ?_, ?_, ?_, fun ho => ?_, fun ho => ?_⟩
  · rw [exec, execSetactive, command_idle _ hb]
  · rw [setactiveEffect]
    split <;> rfl
  · rw [setactiveEffect]
    split <;> simp
  · rw [setactiveEffect, if_pos ho, activate_line, ← ho]
  · simp [setactiveEffect, ho, setModeLine_open]

/-- Settles O19: the refusal while BUSY, else the head or EMPTY and READ's effect. -/
theorem rxdataResult : Obligations.RxdataResult := by
  refine fun s a => ⟨decode_rxdata, execRxdata_busy, fun hb hq => ?_, fun x rest hb hq => ?_⟩
  · rw [exec, execRxdata_idle hb, peekWord_empty hq, fifoRead_empty hq]
  · rw [exec, execRxdata_idle hb, peekWord_cons hq, fifoRead_cons hq]

/-- Settles O20: the word of each port, by the buffer's head and by its overflow latch. -/
theorem peekAndAvailableResults : Obligations.PeekAndAvailableResults := by
  refine fun s a => ⟨decode_rxpeek, decode_rxavail, fun hq => ?_, fun x rest hq => ?_, fun hovf => ?_, fun hovf => ?_⟩
  · rw [exec, execRxpeek, peekWord_empty hq]
  · rw [exec, execRxpeek, peekWord_cons hq]
  · rw [exec, execRxavail, availWord, if_pos hovf]
  · rw [exec, execRxavail, availWord, hovf, if_neg Bool.noConfusion]

end

section
/-! ## The states of the transport sequencer -/

namespace Sys2Proof.Machine

/-- `next_after_wake` by name of the state it turns to (R178). -/
theorem nextAfterWake_eq (s : State) :
    nextAfterWake s =
      { s with xport := { s.xport with seq := if s.xport.sendThenListen then XSeq.write else XSeq.idle } } :=
  rfl

/-- X_LSTART (R181). -/
theorem transportStep_lstart {s : State} (hx : s.xport.seq = .lstart) :
    transportStep s =
      { s with
        xport := { s.xport with seq := .listen, idle := 0 },
        line :=
          { s.line with
            mode := .listening, rx := if s.line.mode = .disabled then .waitHigh else s.line.rx } } := by
  simp [transportStep, hx, stepLstart, setMode, setModeLine_open]

/-- X_LISTEN with an empty queue before the timeout (R181). -/
theorem transportStep_listen_waits {s : State} (hx : s.xport.seq = .listen) (hq : s.line.rxq = [])
    (h : s.xport.idle < s.xport.ltCycles) :
    transportStep s = { s with xport := { s.xport with idle := s.xport.idle + 1 } } := by
  simp [transportStep, hx, stepListen, hq, Nat.not_le.mpr h]

/-- X_LISTEN with an empty queue at the timeout (R181). -/
theorem transportStep_listen_ends {s : State} (hx : s.xport.seq = .listen) (hq : s.line.rxq = [])
    (h : s.xport.ltCycles ≤ s.xport.idle) : transportStep s = endListen s := by
  simp [transportStep, hx, stepListen, hq, h]

/-- The end of a listen without an echo pattern (R181). -/
theorem endListen_of_no_echo {s : State} (h : s.xport.echoLen = 0) :
    endListen s = { s with xport := { s.xport with seq := .idle } } := by
  simp [endListen, h, setXseq]

/-- The end of a listen with an echo pattern (R181, R182). -/
theorem endListen_of_echo {s : State} (h : 0 < s.xport.echoLen) :
    endListen s =
      { s with xport := { s.xport with seq := .idle }, fifo := fifoStrip (echoPattern s.xport) s.fifo } := by
  simp [endListen, h, setXseq]

end Sys2Proof.Machine

open Sys2Proof Sys2Proof.Machine

/-- Settles O42: the branches of X_WAKE, X_BREAK and X_MARK. -/
theorem wakeSequenceSteps : Obligations.WakeSequenceSteps := by
  rintro s _ _ rfl rfl
  refine ⟨fun hx hbreak => ?_, fun hx hbreak => ?_, fun hx htx => ?_, fun hx htx hmark => ?_, fun hx htx hmark => ?_,
    fun hx htx => ?_, fun hx htx => ?_⟩ <;> simp only [transportStep, hx]
  · simp [stepWake, hbreak, setMode, setModeLine_open, txStart, setXseq]
  · simp [stepWake, hbreak, setMode, setModeLine_open, nextAfterWake_eq]
  · rw [stepBreak, if_neg htx]
  · simp [stepBreak, htx, hmark, nextAfterWake_eq]
  · simp [stepBreak, htx, hmark, txMark, setXseq]
  · rw [stepMark, if_neg htx]
  · rw [stepMark, if_pos htx, nextAfterWake_eq]

/-- Settles O43: the branches of X_WRITE. -/
theorem writeSequenceSteps : Obligations.WriteSequenceSteps := by
  intro s hx
  have hwrite : transportStep s = stepWrite s := by rw [transportStep, hx]
  rw [hwrite]
  refine ⟨fun htx => ?_, fun c htx hwi hc => ?_, fun htx hwi => ?_⟩
  · rw [stepWrite, if_neg htx]
  · rw [stepWrite, if_pos htx, if_pos hwi, List.getD_eq_getElem?_getD, hc]
    rfl
  · rw [stepWrite, if_pos htx, if_neg (Nat.not_lt.mpr hwi)]
    rfl

/-- Settles O44: X_LSTART, and the branches of X_LISTEN by the queue, the idle count and the echo length. -/
theorem listenLoopSteps : Obligations.ListenLoopSteps := by
  refine fun s => ⟨transportStep_lstart, fun x rest hx hq => ?_, transportStep_listen_waits,
    fun hx hq hend hecho => ?_, fun hx hq hend hecho => ?_⟩
  · simp [transportStep, hx, stepListen, hq]
  · rw [transportStep_listen_ends hx hq hend, endListen_of_no_echo hecho]
  · rw [transportStep_listen_ends hx hq hend, endListen_of_echo hecho]
    rfl

end

section
/-! ## A silent listen -/

namespace Sys2Proof.Machine

/-! ### Runs -/

/-- A run of `n + 1` steps is its first step and a run of `n`. -/
theorem runsTo_succ_iff {n : Nat} {s t u : State} (h : step s = .next u) : RunsTo (n + 1) s t ↔ RunsTo n u t := by
  have hcore : core.step s = .next u := h
  simp only [RunsTo, Host.Core.run, hcore]

/-- A run grows by one step at its end. -/
theorem RunsTo.snoc {n : Nat} {s u t : State} (h : RunsTo n s u) (hstep : step u = .next t) : RunsTo (n + 1) s t := by
  induction n generalizing s with
  | zero =>
    cases h
    exact (runsTo_succ_iff hstep).mpr rfl
  | succ n ih =>
    obtain ⟨v, hv⟩ := everyStepAnswers s
    rw [runsTo_succ_iff hv] at h ⊢
    exact ih h

/-! ### A receiver that hears a mark -/

/-- A receiver outside a frame (R227). -/
def OutsideFrame (x : RxState) : Prop := x = .off ∨ x = .waitHigh ∨ x = .hunt

/-- At a level of 1 a receiver outside a frame stays outside and delivers nothing (R227). -/
theorem OutsideFrame.rxNext {x : RxState} (h : OutsideFrame x) (p : Params) (rate : Rate) :
    OutsideFrame (rxNext p rate true x).rx ∧ (rxNext p rate true x).delivered = none := by
  rcases h with rfl | rfl | rfl <;> simp [Machine.rxNext, OutsideFrame]

theorem OutsideFrame.uartRx {s0 s : State} (h0 : OutsideFrame s0.line.rx) (h : OutsideFrame s.line.rx) :
    OutsideFrame (uartRx true s0 s).line.rx ∧ (uartRx true s0 s).line.rxq = s.line.rxq := by
  by_cases hrx : s.line.rx = s0.line.rx
  · obtain ⟨hnext, hnone⟩ := h0.rxNext s.params s0.line.rate
    obtain ⟨hrxq, -⟩ := uartRx_queue_of_none hrx hnone
    exact ⟨uartRx_rx true hrx ▸ hnext, hrxq⟩
  · rw [uartRx_of_written true hrx]
    exact ⟨h, rfl⟩

/-! ### A quiet block on a silent line -/

/-- A quiet host, `n` more samples of a mark, an empty queue, no frame begun, and no POLL. -/
structure SilentLine (n : Nat) (s : State) : Prop where
  host : s.host = []
  rxd : s.rxd = List.replicate n true
  rxq : s.line.rxq = []
  rx : OutsideFrame s.line.rx
  engine : s.engine.seq = .idle

/-- The clock edge at a level of 1 without a POLL: the line stays silent, and the transport's latches, the buffer and the mode are
the transport's (R80). -/
theorem silentLine_clockEdge {n : Nat} {s0 s : State} (hhost : s0.host.tail = [])
    (hrxd : s0.rxd = List.replicate (n + 1) true) (hrx : OutsideFrame s0.line.rx) (he0 : s0.engine.seq = .idle)
    (he : s.engine.seq = .idle) (hrxq' : (transportPhase s0 s).line.rxq = [])
    (hrx' : OutsideFrame (transportPhase s0 s).line.rx) :
    SilentLine n (clockEdge s0 s) ∧ (clockEdge s0 s).xport = (transportPhase s0 s).xport ∧
    (clockEdge s0 s).fifo = (transportPhase s0 s).fifo ∧
    (clockEdge s0 s).line.mode = (transportPhase s0 s).line.mode := by
  have hphase : enginePhase s0 (transportPhase s0 s) = transportPhase s0 s := enginePhase_idle _ he0
  have hline : (clockEdge s0 s).line = (uartRx true s0 (uartTx s0 (transportPhase s0 s))).line := by
    rw [← hphase, clockEdge, rxdNow, hrxd]
    rfl
  obtain ⟨-, htxrx, -⟩ := uartTx_receiver s0 (transportPhase s0 s)
  obtain ⟨hout, hkept⟩ := hrx.uartRx (htxrx ▸ hrx' : OutsideFrame (uartTx s0 (transportPhase s0 s)).line.rx)
  rw [uartTx_rxq, hrxq', ← hline] at hkept
  rw [← hline] at hout
  obtain ⟨rx, rxq, ovr, hframe⟩ := clockEdge_frame s0 s
  rw [hphase] at hframe
  refine ⟨⟨?_, ?_, hkept, hout, ?_⟩, ?_, ?_, clockEdge_mode s0 s⟩
  · rw [hframe]
    exact hhost
  · rw [hframe]
    dsimp only
    rw [hrxd, List.replicate_succ, List.tail_cons]
  · rw [hframe]
    dsimp only
    rw [transportPhase_engine, he]
  · rw [hframe]
  · rw [hframe]

/-- A step on a silent line is a transport step, which never lengthens the queue. -/
theorem SilentLine.step {n : Nat} {s u : State} (h : SilentLine (n + 1) s) (hu : transportStep s = u)
    (hrx : OutsideFrame u.line.rx) :
    ∃ t, step s = .next t ∧ SilentLine n t ∧ t.xport = u.xport ∧ t.fifo = u.fifo ∧ t.line.mode = u.line.mode := by
  subst hu
  have hphase : transportPhase s s = transportStep s := transportPhase_eq_transportStep rfl
  have hnow : hostNow s = quietCycle := by rw [hostNow, h.host, List.headD_nil]
  have hrxq : (transportPhase s s).line.rxq = [] := by
    have hlen := transportPhase_rxq_length s s
    rw [h.rxq] at hlen
    exact List.eq_nil_of_length_eq_zero (Nat.le_zero.mp hlen)
  have hedge := silentLine_clockEdge (s := s) (by rw [h.host, List.tail_nil]) h.rxd h.rx h.engine h.engine hrxq
    (hphase ▸ hrx)
  rw [hphase] at hedge
  exact ⟨clockEdge s s, step_quiet (by rw [hnow]; rfl) (by rw [hnow]; rfl), hedge⟩

/-! ### The echo pattern -/

theorem fifoStrip_nil (f : Fifo) : fifoStrip [] f = f := by
  simp [fifoStrip, fifoDrain, stripEcho, slice]

/-- The end of a listen strips the echo pattern, which is empty without an echo (R181, R182). -/
theorem endListen_fifo (s : State) : (endListen s).fifo = fifoStrip (echoPattern s.xport) s.fifo := by
  rcases Nat.eq_zero_or_pos s.xport.echoLen with hecho | hecho
  · rw [endListen_of_no_echo hecho, echoPattern, hecho, List.take_zero, List.map_nil, fifoStrip_nil]
  · rw [endListen_of_echo hecho]

/-- Without ECHO a LISTEN has no pattern (R184). -/
theorem echoPattern_listenEffect_false (s : State) : echoPattern (listenEffect false s).xport = [] := rfl

/-- With ECHO the pattern of a LISTEN is the latched command (R182, R184). -/
theorem echoPattern_listenEffect_true {s : State} (h : s.regs.txlen.toNat ≤ 16) :
    echoPattern (listenEffect true s).xport = (txChars s.regs).map byteOf := by
  have htake : ((txChars s.regs) ++ s.xport.cmdl.drop (txChars s.regs).length).take s.regs.txlen.toNat =
      txChars s.regs := List.take_left' (txChars_length s.regs h)
  exact congrArg (List.map byteOf) htake

/-- The latched command as bytes, index by index: the first LEN bytes of TXBUF with bit 7 cleared (R84, R182). -/
theorem eq_txChars_bytes {r : HostRegs} (hlen : r.txlen.toNat ≤ 16) {p : List Byte} (hp : p.length = r.txlen.toNat)
    (hbyte : ∀ n, n < p.length → p[n]? =
      ([r.txbuf0, r.txbuf1, r.txbuf2, r.txbuf3][n / 4]?).map
        (fun w => ((w.extractLsb' (8 * (n % 4)) 8).setWidth 7).setWidth 8)) :
    p = (txChars r).map byteOf := by
  have hcs : ((txChars r).map byteOf).length = p.length := by rw [List.length_map, txChars_length r hlen, hp]
  refine List.ext_getElem? fun n => ?_
  rcases Nat.lt_or_ge n p.length with hn | hn
  · rw [hbyte n hn, List.getElem?_map, txChars_getElem? r hlen (hp ▸ hn), Option.map_map]
    rfl
  · rw [List.getElem?_eq_none hn, List.getElem?_eq_none (hcs.trans_le hn)]

/-! ### The listen -/

/-- A silent listen with the latches `x` and the buffer `f`, `k` idle cycles into it, with `n` more samples of a mark. -/
structure SilentListen (x : Xport) (f : Fifo) (n k : Nat) (s : State) : Prop extends SilentLine n s where
  xport : s.xport = { x with seq := .listen, idle := k }
  fifo : s.fifo = f
  mode : s.line.mode = .listening

theorem busy_of_xport_running {s : State} (h : s.xport.seq ≠ .idle) : busy s = true := by
  simp [busy, h]

theorem SilentListen.busy {x : Xport} {f : Fifo} {n k : Nat} {s : State} (h : SilentListen x f n k s) :
    busy s = true :=
  busy_of_xport_running (by simp [h.xport])

/-- The acceptance of LISTEN on a silent line (R184). -/
theorem listen_starts {echo : Bool} {n : Nat} {s : State} (hb : busy s = false)
    (hlen : echo = true → s.regs.txlen.toNat ≤ 16) (hrxq : s.line.rxq = []) (hrx : OutsideFrame s.line.rx)
    (hhost : s.host = [⟨true, some (encode (.listen echo))⟩]) (hrxd : s.rxd = List.replicate (n + 1) true) :
    ∃ t, step s = .next t ∧ SilentLine n t ∧ t.xport = (listenEffect echo s).xport ∧ t.fifo = s.fifo := by
  obtain ⟨hx, he⟩ := idle_of_not_busy hb
  obtain ⟨-, hdecode⟩ := decode_encode (.listen echo)
  have hnow : hostNow s = ⟨true, some (encode (.listen echo))⟩ := by rw [hostNow, hhost, List.headD_cons]
  have haccess : hostAccess (encode (.listen echo)) s = .next (listenEffect echo s) := by
    rw [hostAccess, hdecode]
    dsimp only [exec, execListen]
    rw [command_accepted echo (listenEffect echo) s hb hlen]
  have hphase := transportPhase_idle (listenEffect echo s) hx
  have hedge := silentLine_clockEdge (s := listenEffect echo s) (by rw [hhost, List.tail_cons]) hrxd hrx he he
    (by rw [hphase, listenEffect_line, hrxq]) (by rwa [hphase, listenEffect_line])
  rw [hphase] at hedge
  obtain ⟨hsilent, hxport, hfifo, -⟩ := hedge
  exact ⟨_, step_access (by rw [hnow]) (by rw [hnow]) haccess, hsilent, hxport, hfifo⟩

/-- X_LSTART on a silent line (R181). -/
theorem SilentLine.turns_to_listen {n : Nat} {s : State} (h : SilentLine (n + 1) s) (hx : s.xport.seq = .lstart) :
    ∃ t, Machine.step s = .next t ∧ SilentListen s.xport s.fifo n 0 t := by
  have hrx : OutsideFrame (if s.line.mode = .disabled then RxState.waitHigh else s.line.rx) := by
    split
    · exact .inr (.inl rfl)
    · exact h.rx
  obtain ⟨t, hstep, hsilent, hxport, hfifo, hmode⟩ := h.step (transportStep_lstart hx) hrx
  exact ⟨t, hstep, hsilent, hxport, hfifo, hmode⟩

/-- X_LISTEN before the timeout on a silent line: one more idle cycle (R181). -/
theorem SilentListen.waits {x : Xport} {f : Fifo} {n k : Nat} {s : State} (h : SilentListen x f (n + 1) k s)
    (hk : k < x.ltCycles) : ∃ t, step s = .next t ∧ SilentListen x f n (k + 1) t := by
  have hwait := transportStep_listen_waits (s := s) (by rw [h.xport]) h.rxq (by rwa [h.xport])
  obtain ⟨t, hstep, hsilent, hxport, hfifo, hmode⟩ := h.toSilentLine.step hwait h.rx
  rw [h.xport] at hxport
  exact ⟨t, hstep, hsilent, hxport, hfifo.trans h.fifo, hmode.trans h.mode⟩

/-- X_LISTEN at the timeout on a silent line: the strip, and the block is idle (R181, R182). -/
theorem SilentListen.ends {x : Xport} {f : Fifo} {n : Nat} {s : State} (h : SilentListen x f (n + 1) x.ltCycles s) :
    ∃ t, step s = .next t ∧ Machine.busy t = false ∧ t.line.mode = .listening ∧ t.fifo = fifoStrip (echoPattern x) f := by
  have hend := transportStep_listen_ends (s := s) (by rw [h.xport]) h.rxq (by rw [h.xport])
  obtain ⟨t, hstep, hsilent, hxport, hfifo, hmode⟩ := h.toSilentLine.step hend (by rw [endListen_line]; exact h.rx)
  refine ⟨t, hstep, ?_, ?_, ?_⟩
  · simp [Machine.busy, pbusy, hxport, hsilent.engine]
  · rw [hmode, endListen_line, h.mode]
  · rw [hfifo, endListen_fifo, h.xport, h.fifo]
    rfl

end Sys2Proof.Machine

open Sys2Proof Sys2Proof.Machine

/-- Settles O45: the acceptance, X_LSTART, one idle cycle of X_LISTEN for each cycle of the timeout, and the end. -/
theorem silentListenEndsOnTime : Obligations.SilentListenEndsOnTime := by
  intro echo s L hb hrxq hlen hrx hhost hL hrxd
  obtain ⟨t1, hstep1, hsilent, hxport, hfifo⟩ := listen_starts (n := L + 2) hb hlen hrxq hrx hhost hrxd
  have hstart : t1.xport.seq = .lstart := congrArg Xport.seq hxport
  obtain ⟨t2, hstep2, hlisten⟩ := hsilent.turns_to_listen hstart
  have hlt : t1.xport.ltCycles = L := (congrArg Xport.ltCycles hxport).trans hL.symm
  have hrun1 : RunsTo 1 s t1 := RunsTo.snoc (n := 0) rfl hstep1
  have hrun : ∀ k, k ≤ L → ∃ t, RunsTo (k + 2) s t ∧ SilentListen t1.xport t1.fifo (L - k + 1) k t := by
    intro k
    induction k with
    | zero => exact fun _ => ⟨t2, hrun1.snoc hstep2, hlisten⟩
    | succ k ih =>
      intro hk
      obtain ⟨t, ht, hwaiting⟩ := ih (Nat.le_of_succ_le hk)
      rw [show L - k = L - (k + 1) + 1 by omega] at hwaiting
      obtain ⟨u, hu, hnext⟩ := hwaiting.waits (hlt ▸ hk)
      exact ⟨u, ht.snoc hu, hnext⟩
  constructor
  · intro n hn
    cases n with
    | zero => exact ⟨t1, hrun1, busy_of_xport_running (by simp [hstart])⟩
    | succ k =>
      obtain ⟨t, ht, hwaiting⟩ := hrun k (by omega)
      exact ⟨t, ht, hwaiting.busy⟩
  · obtain ⟨t, ht, hwaiting⟩ := hrun L (Nat.le_refl L)
    rw [← hlt] at hwaiting
    obtain ⟨u, hu, hidle, hmode, hstrip⟩ := hwaiting.ends
    rw [hxport, hfifo] at hstrip
    refine ⟨u, ht.snoc hu, hidle, hmode, fun hecho => ?_, fun p hecho hp hbyte => ?_⟩
    · rw [hstrip, hecho, echoPattern_listenEffect_false, fifoStrip_nil]
    · rw [hstrip, hecho, echoPattern_listenEffect_true (hlen hecho), eq_txChars_bytes (hlen hecho) hp hbyte]

end

section
/-! ## The states of the engine sequencer -/

namespace Sys2Proof.Machine

/-! ### The state that steps -/

theorem engineStep_start (x : Bool) {s : State} (h : s.engine.seq = .start) : engineStep x s = stepStart s := by
  rw [engineStep, h]

theorem engineStep_issueSend (x : Bool) {s : State} (h : s.engine.seq = .issueSend) :
    engineStep x s = stepIssueSend s := by
  rw [engineStep, h]

theorem engineStep_readyListen (x : Bool) {s : State} (h : s.engine.seq = .readyListen) :
    engineStep x s = stepReadyListen s := by
  rw [engineStep, h]

theorem engineStep_dataSend (x : Bool) {s : State} (h : s.engine.seq = .dataSend) :
    engineStep x s = stepDataSend s := by
  rw [engineStep, h]

theorem engineStep_convert (x : Bool) {s : State} (h : s.engine.seq = .convert) :
    engineStep x s = stepConvert s := by
  rw [engineStep, h]

theorem engineStep_finish (x : Bool) {s : State} (h : s.engine.seq = .finish) : engineStep x s = stepFinish s := by
  rw [engineStep, h]

/-- The `*_CHECK` states wait for an idle transport (R267). -/
theorem engineStep_waits {s : State}
    (h : s.engine.seq = .issueCheck ∨ s.engine.seq = .readyCheck ∨ s.engine.seq = .dataCheck) :
    engineStep false s = s := by
  rcases h with h | h | h <;> rw [engineStep, h] <;> exact if_neg Bool.false_ne_true

theorem engineStep_issueCheck {s : State} (h : s.engine.seq = .issueCheck) :
    engineStep true s = stepIssueCheck s := by
  rw [engineStep, h]
  exact if_pos rfl

theorem engineStep_readyCheck {s : State} (h : s.engine.seq = .readyCheck) :
    engineStep true s = stepReadyCheck s := by
  rw [engineStep, h]
  exact if_pos rfl

theorem engineStep_dataCheck {s : State} (h : s.engine.seq = .dataCheck) :
    engineStep true s = stepDataCheck s := by
  rw [engineStep, h]
  exact if_pos rfl

/-! ### The first step of a POLL -/

theorem stepStart_usageError {s : State} (h : 2 ≤ s.engine.kind.toNat ∨ addrValid s.engine.addr = false) :
    stepStart s = finishWith 1 (flushQ s) :=
  if_pos h

/-- A KIND of 0 or 1 and an address of the set: the start command and the issue phase (R252). -/
theorem stepStart_valid {s : State} (hk : s.engine.kind.toNat < 2) (ha : addrValid s.engine.addr = true) :
    stepStart s =
      { s with
        fifo := fifoFlush,
        engine :=
          { s.engine with
            cmdp := startCommand s.engine.addr s.engine.kind, tries := 0, seq := .issueSend },
        poll := { s.poll with phase := 1 } } :=
  if_neg (by simp [ha, hk])

/-- The start command of a KIND that is a kind, with its digit (R114, R119). -/
theorem startCommand_of_kind {kind : BitVec 2} (hk : kind.toNat < 2) (addr : Byte) :
    startCommand addr kind = [addr, 0x4D, if kind = 0 then 0x30 else 0x31, 0x21] := by
  have hdigit : ∀ k : BitVec 2, k.toNat < 2 → 0x30 + k.setWidth 8 = if k = 0 then (0x30 : Byte) else 0x31 := by
    decide
  rw [startCommand, hdigit kind hk]

/-! ### The hand-over to the transport -/

theorem low7_eq_extractLsb' : low7 = fun x => x.extractLsb' 0 7 := by
  funext x
  exact BitVec.setWidth_eq_extractLsb' (by decide)

/-- START_SEND of a command of four characters (R266). -/
theorem startSend_of_length_four {p : List Byte} (hp : p.length = 4) (s : State) :
    startSend p s =
      { s with
        xport :=
          { s.xport with
            cmdl := p.map (fun x => x.extractLsb' 0 7) ++ s.xport.cmdl.drop 4, cmdlLen := 4, echoLen := 4,
            wi := 0, sendThenListen := true, ltCycles := 1000 * (clkHz s.params / 1000), caller := .engine,
            seq := .wake } } := by
  rw [startSend, latchChars, List.length_map, hp, low7_eq_extractLsb']
  rfl

/-! ### The replies -/

theorem stepIssueCheck_retry {s : State} (h : parseSrq s.fifo.q = none) :
    stepIssueCheck s = setPseq .issueSend (collect s) := by
  simp [stepIssueCheck, collect, h]

/-- A service-request reply that parses fills SRQ and starts the ready-wait (R255). -/
theorem stepIssueCheck_parsed {s : State} {a : Byte} {t n : Nat} (h : parseSrq s.fifo.q = some (a, t, n)) :
    stepIssueCheck s =
      { s with
        engine :=
          { s.engine with
            resp := s.fifo.q, srqA := a, srqT := BitVec.ofNat 10 t, srqN := BitVec.ofNat 4 n, t0 := s.now,
            seq := .readyListen },
        srq := { addr := a, ttt := BitVec.ofNat 10 t, n := BitVec.ofNat 4 n, valid := true },
        poll := { s.poll with ovfSeen := s.poll.ovfSeen || s.fifo.ovf, phase := 2 },
        fifo := fifoFlush } := by
  simp [stepIssueCheck, collect, h, setPhase]

/-- IS_NOTICE says that the reply begins with the address and CR LF (R311). -/
theorem isNotice_iff (r : List Byte) (a : Byte) : isNotice r a = true ↔ [a, 0x0D, 0x0A] <+: r := by
  rw [isNotice, beq_iff_eq, List.prefix_iff_eq_take, eq_comm]
  rfl

theorem stepDataCheck_retry {s : State} (h : parseData s.fifo.q = none) :
    stepDataCheck s = setPseq .dataSend (collect s) := by
  simp [stepDataCheck, collect, h]

theorem stepDataCheck_parsed {s : State} {f0 f1 f2 : List Byte} (h : parseData s.fifo.q = some (f0, f1, f2)) :
    stepDataCheck s = nextBlock (storeFields f0 f1 f2 (collect s)) := by
  simp [stepDataCheck, collect, h]

/-! ### The data blocks -/

theorem stepDataSend_done {s : State} (h : s.engine.srqN.toNat ≤ s.engine.count ∨ 2 ≤ s.engine.b) :
    stepDataSend s = setPhase 5 (setPseq .convert s) :=
  if_pos h

/-- A due block without an attempt left ends the POLL in strict mode and degrades in lenient mode (R258). -/
theorem stepDataSend_exhausted {s : State} (hdue : ¬ (s.engine.srqN.toNat ≤ s.engine.count ∨ 2 ≤ s.engine.b))
    (htries : s.engine.ba.toNat ≤ s.engine.tries.toNat) :
    stepDataSend s =
      if s.engine.strict then finishWith (4 + BitVec.ofNat 4 s.engine.b) (failBlock s) else nextBlock (failBlock s) := by
  rw [stepDataSend, if_neg hdue, if_pos htries]

/-- A due block with an attempt left sends its data command (R258). -/
theorem stepDataSend_attempt {s : State} (hdue : ¬ (s.engine.srqN.toNat ≤ s.engine.count ∨ 2 ≤ s.engine.b))
    (htries : s.engine.tries.toNat < s.engine.ba.toNat) :
    stepDataSend s =
      startSend (dataCommand s.engine.b)
        (setBlkTries (s.engine.tries + 1)
          { s with engine := { s.engine with tries := s.engine.tries + 1, seq := .dataCheck } }) := by
  rw [stepDataSend, if_neg hdue, if_neg (Nat.not_le.mpr htries)]

/-- BLKb_TRIES is a field of POLL_STATUS (R33, R258). -/
theorem setBlkTries_eq (n : BitVec 4) (s : State) :
    setBlkTries n s =
      { s with
        poll := if s.engine.b = 0 then { s.poll with blk0Tries := n } else { s.poll with blk1Tries := n } } := by
  unfold setBlkTries
  split <;> rfl

end Sys2Proof.Machine

open Sys2Proof Sys2Proof.Machine

/-- Settles O46, by the usage check and the final step. -/
theorem pollBeginsAndEnds : Obligations.PollBeginsAndEnds := by
  refine fun s x => ⟨fun hseq hbad => ?_, fun hseq hkind haddr => ?_, fun hseq => ?_⟩
  · rw [engineStep_start x hseq, stepStart_usageError hbad]
    rfl
  · rw [engineStep_start x hseq, stepStart_valid hkind haddr, startCommand_of_kind hkind]
    rfl
  · rw [engineStep_finish x hseq]
    rfl

/-- Settles O47, by the count of attempts and the parse of the reply. -/
theorem startAttempts : Obligations.StartAttempts := by
  refine fun s => ⟨fun p hp => startSend_of_length_four hp s, fun hseq htries => ?_, fun hseq htries => ?_,
    fun hseq => engineStep_waits (.inl hseq), fun hseq hparse => ?_, fun a t n hseq hparse => ?_⟩
  · rw [engineStep_issueSend true hseq, stepIssueSend, if_pos htries]
    rfl
  · rw [engineStep_issueSend true hseq, stepIssueSend, if_neg (Nat.not_le.mpr htries)]
  · rw [engineStep_issueCheck hseq, stepIssueCheck_retry hparse]
    rfl
  · rw [engineStep_issueCheck hseq, stepIssueCheck_parsed hparse]
    rfl

/-- Settles O48, by the window and by whether the collected bytes are a notice. -/
theorem readyWait : Obligations.ReadyWait := by
  refine fun s => ⟨fun hseq hover => ?_, fun hseq hwithin => ?_, fun hseq => engineStep_waits (.inr (.inl hseq)),
    fun hseq hnotice => ?_, fun hseq hother => ?_⟩
  · rw [engineStep_readyListen true hseq]
    exact if_pos hover
  · rw [engineStep_readyListen true hseq]
    exact if_neg (Nat.not_le.mpr hwithin)
  · rw [engineStep_readyCheck hseq]
    exact if_pos ((isNotice_iff _ _).mpr hnotice)
  · rw [engineStep_readyCheck hseq]
    exact if_neg fun h => hother ((isNotice_iff _ _).mp h)

/-- Settles O49, by the blocks that are due, the attempts left, and the block. -/
theorem dataBlockAttempts : Obligations.DataBlockAttempts := by
  intro s hseq
  rw [engineStep_dataSend true hseq]
  refine ⟨stepDataSend_done, fun hcount hb htries => ?_, fun hcount hb htries => ?_, fun hcount hb htries => ?_⟩
  · rw [stepDataSend_exhausted (by omega) htries]
    simp [failBlock, nextBlock, hb, finishWith, setPhase]
  · rw [stepDataSend_exhausted (by omega) htries]
    simp [failBlock, nextBlock, hb, finishWith, setPhase]
  · rw [stepDataSend_attempt (by omega) htries, setBlkTries_eq]
    rfl

/-- Settles O50, by the parse of the reply and the block. -/
theorem dataReplyCheck : Obligations.DataReplyCheck := by
  intro s hseq
  rw [engineStep_dataCheck hseq]
  refine ⟨engineStep_waits (.inr (.inr hseq)), stepDataCheck_retry, fun f0 f1 f2 hparse hb => ?_,
    fun f0 f1 f2 hparse hb => ?_⟩
  · rw [stepDataCheck_parsed hparse]
    simp [storeFields, nextBlock, collect, hb, setPhase, fifoFlush]
  · rw [stepDataCheck_parsed hparse]
    simp [storeFields, nextBlock, collect, hb, setPhase, fifoFlush]

end

section
/-! ## The conversion -/

namespace Sys2Proof.Machine

/-! ### Six values -/

theorem six_mapSix {α β : Type} (f : α → β) (v : Six α) (j : Nat) : six (mapSix f v) j = f (six v j) := by
  unfold six
  split <;> rfl

/-- The six values of a family stand at their indices. -/
theorem six_of_family {α : Type} (v : Nat → α) {j : Nat} (h : j < 6) : six ⟨v 0, v 1, v 2, v 3, v 4, v 5⟩ j = v j := by
  interval_cases j <;> rfl

/-! ### The values of the fields -/

/-- Field `j` as P_CONVERT converts it (R260, R261). -/
def fieldValue (e : Engine) (j : Nat) : Option Value := convertField (blockParsed e j) (six e.fields j)

theorem fieldValue_of_parsed {e : Engine} {j : Nat} (h : blockParsed e j = true) :
    fieldValue e j = numeric (six e.fields j) := by
  rw [fieldValue, h]
  rfl

theorem fieldValue_of_not_parsed {e : Engine} {j : Nat} (h : blockParsed e j = false) :
    fieldValue e j = some zeroValue := by
  rw [fieldValue, h]
  rfl

/-- The conversion has six values when each field has one. -/
theorem convertAll_of_fields {e : Engine} {v : Nat → Value} (h : ∀ j, j < 6 → fieldValue e j = some (v j)) :
    convertAll e = some ⟨v 0, v 1, v 2, v 3, v 4, v 5⟩ := by
  have h0 : convertField e.blkOk0 e.fields.x0 = some (v 0) := h 0 (by decide)
  have h1 : convertField e.blkOk0 e.fields.x1 = some (v 1) := h 1 (by decide)
  have h2 : convertField e.blkOk0 e.fields.x2 = some (v 2) := h 2 (by decide)
  have h3 : convertField e.blkOk1 e.fields.x3 = some (v 3) := h 3 (by decide)
  have h4 : convertField e.blkOk1 e.fields.x4 = some (v 4) := h 4 (by decide)
  have h5 : convertField e.blkOk1 e.fields.x5 = some (v 5) := h 5 (by decide)
  simp only [convertAll, h0, h1, h2, h3, h4, h5]

/-- Six values of a conversion are a value of each field. -/
theorem fields_of_convertAll {e : Engine} {v : Six Value} (h : convertAll e = some v) :
    ∀ j, j < 6 → fieldValue e j = some (six v j) := by
  unfold convertAll at h
  split at h
  · cases h
    intro j hj
    interval_cases j <;> assumption
  · cases h

theorem someFieldNotNumeric_iff (e : Engine) :
    someFieldNotNumeric e = true ↔ ∃ j, j < 6 ∧ fieldValue e j = none := by
  have hfield : ∀ j, (blockParsed e j && (numeric (six e.fields j)).isNone) = true ↔ fieldValue e j = none := by
    intro j
    cases hb : blockParsed e j with
    | false => simp [fieldValue_of_not_parsed hb]
    | true => simp [fieldValue_of_parsed hb]
  simp [someFieldNotNumeric, hfield]

/-- One field of a parsed block that is not numeric leaves no value (R306). -/
theorem convertAll_of_not_numeric {e : Engine} (h : someFieldNotNumeric e = true) : convertAll e = none := by
  obtain ⟨j, hj, hnone⟩ := (someFieldNotNumeric_iff e).mp h
  cases hall : convertAll e with
  | none => rfl
  | some v => simp [fields_of_convertAll hall j hj] at hnone

/-- With every field of a parsed block numeric the conversion has six values (R261). -/
theorem convertAll_of_numeric {e : Engine} (h : someFieldNotNumeric e = false) : ∃ v, convertAll e = some v := by
  refine ⟨_, convertAll_of_fields (v := fun j => (fieldValue e j).getD zeroValue) fun j hj => ?_⟩
  cases hvalue : fieldValue e j with
  | none => simp [(someFieldNotNumeric_iff e).mpr ⟨j, hj, hvalue⟩] at h
  | some v => rfl

/-! ### The bank -/

/-- BANK_UPDATE of a KIND that is a kind writes its bank and leaves the other (R35, R262). -/
theorem setBank_of_kind {kind : BitVec 2} (h : kind = 0 ∨ kind = 1) (d : Bank) (s : State) :
    setBank kind d s =
      { s with
        moisture := if kind = 0 then d else s.moisture,
        temperature := if kind = 0 then s.temperature else d } := by
  rcases h with rfl | rfl <;> rfl

theorem readingBank_value (a : Byte) (v : Six Value) (raw : List Byte) (j : Nat) :
    six (readingBank a v raw).valdec j = decWord (six v j) ∧ six (readingBank a v raw).valf64 j = f64Word (six v j) :=
  ⟨six_mapSix decWord v j, six_mapSix f64Word v j⟩

theorem decWord_zeroValue : decWord zeroValue = 0 := by decide

theorem f64Word_zeroValue : f64Word zeroValue = 0 := by decide

/-- A reading of zeros without text (R306). -/
theorem readingBank_zero (a : Byte) (j : Nat) :
    six (readingBank a (sixOf zeroValue) []).valdec j = 0 ∧ six (readingBank a (sixOf zeroValue) []).valf64 j = 0 := by
  obtain ⟨hdec, hf64⟩ := readingBank_value a (sixOf zeroValue) [] j
  rw [six_sixOf] at hdec hf64
  exact ⟨hdec.trans decWord_zeroValue, hf64.trans f64Word_zeroValue⟩

end Sys2Proof.Machine

open Sys2Proof Sys2Proof.Machine

/-- Settles O51, by whether some field of a parsed block is not numeric. -/
theorem conversionIsAllOrNothing : Obligations.ConversionIsAllOrNothing := by
  intro s hseq hkind
  have hvalues : ∀ v : Nat → Value,
      (∀ j, j < 6 → (blockParsed s.engine j = true → numeric (six s.engine.fields j) = some (v j)) ∧
        (blockParsed s.engine j = false → v j = ⟨false, 0, 0⟩)) →
      convertAll s.engine = some ⟨v 0, v 1, v 2, v 3, v 4, v 5⟩ := by
    refine fun v hv => convertAll_of_fields fun j hj => ?_
    obtain ⟨hparsed, hnot⟩ := hv j hj
    cases hb : blockParsed s.engine j with
    | true => rw [fieldValue_of_parsed hb, hparsed hb]
    | false => rw [fieldValue_of_not_parsed hb, hnot hb, zeroValue]
  rw [engineStep_convert true hseq, stepConvert]
  cases hbad : someFieldNotNumeric s.engine with
  | true =>
    have hall := convertAll_of_not_numeric hbad
    rw [hall]
    refine ⟨readingBank s.engine.addr (sixOf zeroValue) [], ?_, rfl, rfl,
      fun _ => ⟨rfl, rfl, fun j _ => readingBank_zero s.engine.addr j⟩, fun v text hv htext => ?_⟩
    · dsimp only
      rw [setBank_of_kind hkind, Bool.or_true]
      rfl
    · simp [hvalues v hv] at hall
  | false =>
    obtain ⟨w, hall⟩ := convertAll_of_numeric hbad
    rw [hall]
    refine ⟨readingBank s.engine.addr w (formatRaw s.engine.addr w), ?_, rfl, rfl, fun h => Bool.noConfusion h,
      fun v text hv htext => ?_⟩
    · dsimp only
      rw [setBank_of_kind hkind, Bool.or_false]
      rfl
    · obtain rfl := Option.some.inj (hall.symm.trans (hvalues v hv))
      subst htext
      refine ⟨fun j hj => ?_, rfl, rfl⟩
      have hbank := readingBank_value s.engine.addr ⟨v 0, v 1, v 2, v 3, v 4, v 5⟩
        (formatRaw s.engine.addr ⟨v 0, v 1, v 2, v 3, v 4, v 5⟩) j
      rwa [six_of_family v hj] at hbank

end

section
/-! ## A POLL that ends in a usage error -/

namespace Sys2Proof.Machine

/-- The state `t` at the end of a cycle in which step 1 and the engine made `u`, the transport was idle and nothing was sent, with a
quiet host to come. -/
structure EngineCycle (u t : State) : Prop where
  host : t.host = []
  fifo : t.fifo = u.fifo
  xport : t.xport = u.xport
  engine : t.engine = u.engine
  poll : t.poll = u.poll
  srq : t.srq = u.srq
  moisture : t.moisture = u.moisture
  temperature : t.temperature = u.temperature
  mode : t.line.mode = u.line.mode
  tx : t.line.tx = .idle

/-- The clock edge on an idle transport leaves what the engine made (R80). -/
theorem engineCycle_clockEdge {s0 s : State} (hhost : s0.host.tail = []) (hx : s0.xport.seq = .idle)
    (htx0 : s0.line.tx = .idle) (htx : s.line.tx = .idle) : EngineCycle (enginePhase s0 s) (clockEdge s0 s) := by
  have hphase : transportPhase s0 s = s := transportPhase_idle s hx
  have hedge := clockEdge_tx_of_idle s htx0
  obtain ⟨rx, rxq, ovr, hframe⟩ := clockEdge_frame s0 s
  rw [hphase] at hframe hedge
  constructor
  case host => rw [hframe]; exact hhost
  case tx => exact hedge.trans htx
  all_goals rw [hframe]

/-- One cycle of a POLL on an idle transport is the engine's step. -/
theorem engineCycle_step {s : State} (hhost : s.host = []) (hx : s.xport.seq = .idle) (he : s.engine.seq ≠ .idle)
    (htx : s.line.tx = .idle) : ∃ t, step s = .next t ∧ EngineCycle (engineStep true s) t := by
  have hnow : hostNow s = quietCycle := by rw [hostNow, hhost, List.headD_nil]
  have hedge := engineCycle_clockEdge (s := s) (by rw [hhost, List.tail_nil]) hx htx htx
  rw [enginePhase_running s he, decide_eq_true hx] at hedge
  exact ⟨_, step_quiet (by rw [hnow]; rfl) (by rw [hnow]; rfl), hedge⟩

/-- The cycle of acceptance of a POLL: the engine is idle at its start and does not step (R80, R251). -/
theorem poll_accepted_step {kind : BitVec 2} {addr : Byte} {s : State} (hb : busy s = false) (htx : s.line.tx = .idle)
    (hhost : s.host = [⟨true, some (encode (.poll kind addr))⟩]) :
    ∃ t, step s = .next t ∧ EngineCycle (pollEffect kind addr s) t := by
  obtain ⟨hx, he⟩ := idle_of_not_busy hb
  obtain ⟨-, hdecode⟩ := decode_encode (.poll kind addr)
  have hnow : hostNow s = ⟨true, some (encode (.poll kind addr))⟩ := by rw [hostNow, hhost, List.headD_cons]
  have haccess : hostAccess (encode (.poll kind addr)) s = .next (pollEffect kind addr s) := by
    rw [hostAccess, hdecode]
    dsimp only [exec, execPoll]
    rw [command_idle (pollEffect kind addr) hb]
  have hedge := engineCycle_clockEdge (s := pollEffect kind addr s) (by rw [hhost, List.tail_cons]) hx htx htx
  rw [enginePhase_idle _ he] at hedge
  exact ⟨_, step_access (by rw [hnow]) (by rw [hnow]) haccess, hedge⟩

theorem busy_of_engine_running {s : State} (h : s.engine.seq ≠ .idle) : busy s = true := by
  simp [busy, pbusy, h]

/-- POLL_STATUS after a usage error: KIND, RESULT 1 and DONE (R33). -/
theorem pollStatusWord_usageError (kind : BitVec 2) :
    pollStatusWord { pollClear with kind := kind, result := 1, done := true, phase := 0 } =
      kind.setWidth 32 <<< 13 ||| 0x11 := by
  revert kind
  decide

end Sys2Proof.Machine

open Sys2Proof Sys2Proof.Machine

/-- Settles O52: the acceptance, P_START with its usage error, and P_FINISH. -/
theorem usageErrorPollTakesThreeCycles : Obligations.UsageErrorPollTakesThreeCycles := by
  intro s kind addr hb htx hhost hbad
  obtain ⟨hx, -⟩ := idle_of_not_busy hb
  obtain ⟨t1, hstep1, h1⟩ := poll_accepted_step hb htx hhost
  have hseq1 : t1.engine.seq = .start := by rw [h1.engine]; rfl
  have hx1 : t1.xport.seq = .idle := by rw [h1.xport]; exact hx
  obtain ⟨hstart, -, -⟩ := pollBeginsAndEnds t1 true
  obtain ⟨t2, hstep2, h2⟩ := engineCycle_step h1.host hx1 (by simp [hseq1]) h1.tx
  rw [hstart hseq1 (by rw [h1.engine]; exact hbad)] at h2
  have hseq2 : t2.engine.seq = .finish := by rw [h2.engine]
  have hx2 : t2.xport.seq = .idle := by rw [h2.xport]; exact hx1
  obtain ⟨-, -, hfinish⟩ := pollBeginsAndEnds t2 true
  obtain ⟨t3, hstep3, h3⟩ := engineCycle_step h2.host hx2 (by simp [hseq2]) h2.tx
  rw [hfinish hseq2] at h3
  have hrun1 : RunsTo 1 s t1 := RunsTo.snoc (n := 0) rfl hstep1
  have hrun2 : RunsTo 2 s t2 := hrun1.snoc hstep2
  refine ⟨t1, t2, t3, hrun1, hrun2, hrun2.snoc hstep3, busy_of_engine_running (by simp [hseq1]),
    busy_of_engine_running (by simp [hseq2]), ?_, ?_, h3.fifo, ?_, h1.tx, h2.tx, h3.tx, ?_, ?_, ?_⟩
  · simp [busy, pbusy, h3.xport, hx2, h3.engine]
  · rw [h3.poll, h2.engine, h2.poll, h1.poll]
    exact pollStatusWord_usageError kind
  · rw [h3.mode, h2.mode, h1.mode, pollEffect_line]
  · rw [h3.srq, h2.srq, h1.srq, pollEffect_srq]
    exact srqWord_srqClear
  · rw [h3.moisture, h2.moisture, h1.moisture, pollEffect_moisture]
  · rw [h3.temperature, h2.temperature, h1.temperature, pollEffect_temperature]

end

section
/-! ## The acceptance of a reply, and the address set -/

namespace Sys2Proof.Machine

/-! ### Bytes counted from the end -/

theorem at'_append_right (p t : List Byte) (i : Nat) : at' (p ++ t) (p.length + i) = at' t i := by
  rw [at', List.getD_append_right _ _ _ _ (Nat.le_add_right _ _), Nat.add_sub_cancel_left]
  rfl

/-- The terminator test reads the last two bytes (R301, R302). -/
theorem endsCrLf_append (p : List Byte) (x y : Byte) : endsCrLf (p ++ [x, y]) = (x == cr && y == lf) := by
  have hx : at' (p ++ [x, y]) ((p ++ [x, y]).length - 2) = x := by
    rw [List.length_append]
    exact at'_append_right p [x, y] 0
  have hy : at' (p ++ [x, y]) ((p ++ [x, y]).length - 1) = y := by
    rw [List.length_append]
    exact at'_append_right p [x, y] 1
  rw [endsCrLf, hx, hy]

theorem exists_append_of_length_eq {r : List Byte} {n : Nat} (h : n ≤ r.length) :
    ∃ p t : List Byte, r = p ++ t ∧ t.length = n :=
  ⟨r.take (r.length - n), r.drop (r.length - n), (List.take_append_drop _ _).symm, by
    rw [List.length_drop]
    omega⟩

theorem endsCrLf_iff {r : List Byte} (h : 2 ≤ r.length) :
    endsCrLf r = true ↔ ∃ body, r = body ++ [0x0D, 0x0A] := by
  obtain ⟨p, t, rfl, ht⟩ := exists_append_of_length_eq h
  obtain ⟨x, y, rfl⟩ := List.length_eq_two.mp ht
  rw [endsCrLf_append, Bool.and_eq_true, beq_iff_eq, beq_iff_eq]
  constructor
  · rintro ⟨rfl, rfl⟩
    exact ⟨p, rfl⟩
  · rintro ⟨body, hbody⟩
    obtain ⟨-, htail⟩ := List.append_inj' hbody rfl
    simpa using htail

/-! ### PARSE_SRQ -/

theorem decVal_three (d2 d1 d0 : Byte) : decVal [d2, d1, d0] = 100 * dig d2 + 10 * dig d1 + dig d0 := by
  simp only [decVal, List.foldl_cons, List.foldl_nil]
  omega

theorem parseSrq_short {r : List Byte} (h : r.length < 7) : parseSrq r = none :=
  if_pos h

/-- PARSE_SRQ by the last seven bytes of the reply (R301). -/
theorem parseSrq_append (p : List Byte) (a d2 d1 d0 c x y : Byte) :
    parseSrq (p ++ [a, d2, d1, d0, c, x, y]) =
      if ((x == cr && y == lf) = true ∧ (isDigit d2 && isDigit d1 && isDigit d0) = true) ∧
          0x31 ≤ c.toNat ∧ c.toNat ≤ 0x39 then
        some (a, 100 * dig d2 + 10 * dig d1 + dig d0, dig c)
      else none := by
  have hlen : (p ++ [a, d2, d1, d0, c, x, y]).length = p.length + 7 := by simp
  have hat : ∀ i, at' (p ++ [a, d2, d1, d0, c, x, y]) (p.length + i) = [a, d2, d1, d0, c, x, y].getD i 0 :=
    at'_append_right p [a, d2, d1, d0, c, x, y]
  have haddr : at' (p ++ [a, d2, d1, d0, c, x, y]) p.length = a := hat 0
  have hends : endsCrLf (p ++ [a, d2, d1, d0, c, x, y]) = (x == cr && y == lf) := by
    simpa using endsCrLf_append (p ++ [a, d2, d1, d0, c]) x y
  have hslice : slice (p ++ [a, d2, d1, d0, c, x, y]) (p.length + 1) (p.length + 4) = [d2, d1, d0] := by
    rw [slice_three _ (p.length + 1) (by omega)]
    simp only [Nat.add_assoc, hat]
    rfl
  unfold parseSrq
  simp only [hlen, hends, Nat.reduceSubDiff, Nat.add_sub_cancel, hslice, haddr, hat, decVal_three,
    List.getD_cons_succ, List.getD_cons_zero]
  rw [if_neg (by omega)]
  cases (x == cr && y == lf) with
  | false => simp
  | true => cases (isDigit d2 && isDigit d1 && isDigit d0) <;> simp

/-! ### PARSE_DATA -/

/-- PARSE_DATA admits a field that is not empty and not headed by NUL (R302). -/
theorem fieldOk_iff (f : List Byte) : fieldOk f = true ↔ ∃ x rest, f = x :: rest ∧ x ≠ 0x00 := by
  cases f with
  | nil => simp [fieldOk]
  | cons x rest => simp [fieldOk]

theorem slice_eq_take_drop {α : Type} (s : List α) (i j : Nat) : slice s i j = (s.drop i).take (j - i) :=
  List.drop_take

theorem parseData_eq_some_iff {r f0 f1 f2 : List Byte} :
    parseData r = some (f0, f1, f2) ↔
      3 < r.length ∧ endsCrLf r = true ∧ (f0 = slice r 2 10 ∧ f1 = slice r 11 19 ∧ f2 = slice r 20 28) ∧
        fieldOk f0 = true ∧ fieldOk f1 = true ∧ fieldOk f2 = true := by
  simp only [parseData, Option.ite_none_left_eq_some, Option.ite_none_right_eq_some, Nat.not_le, Bool.not_eq_false,
    Bool.and_eq_true, Option.some.injEq, Prod.mk.injEq]
  constructor
  · rintro ⟨hlen, hends, ⟨⟨h0, h1⟩, h2⟩, rfl, rfl, rfl⟩
    exact ⟨hlen, hends, ⟨rfl, rfl, rfl⟩, h0, h1, h2⟩
  · rintro ⟨hlen, hends, ⟨rfl, rfl, rfl⟩, h0, h1, h2⟩
    exact ⟨hlen, hends, ⟨⟨h0, h1⟩, h2⟩, rfl, rfl, rfl⟩

/-! ### The address set -/

/-- The address set is three runs of bytes (R310). -/
theorem addrValid_iff (x : Byte) :
    addrValid x = true ↔
      (0x30 ≤ x.toNat ∧ x.toNat ≤ 0x39) ∨ (0x41 ≤ x.toNat ∧ x.toNat ≤ 0x5A) ∨ (0x61 ≤ x.toNat ∧ x.toNat ≤ 0x7A) := by
  simp only [addrValid, Bool.or_eq_true, Bool.and_eq_true, decide_eq_true_eq, isDigit_iff, or_assoc]

end Sys2Proof.Machine

open Sys2Proof Sys2Proof.Machine

/-- Settles O32, by the last seven bytes of the reply. -/
theorem parseSrqExactly : Obligations.ParseSrqExactly := by
  intro r a t n
  constructor
  · intro h
    have hlen : 7 ≤ r.length := by
      by_contra hshort
      rw [parseSrq_short (by omega)] at h
      cases h
    obtain ⟨p, l, rfl, hl⟩ := exists_append_of_length_eq hlen
    match l, hl with
    | [b, d2, d1, d0, c, x, y], _ =>
      rw [parseSrq_append, Option.ite_none_right_eq_some] at h
      obtain ⟨⟨⟨hterm, hdigits⟩, hcount⟩, hvalue⟩ := h
      simp only [Bool.and_eq_true, beq_iff_eq, isDigit_iff] at hterm hdigits
      obtain ⟨rfl, rfl⟩ := hterm
      obtain ⟨⟨hd2, hd1⟩, hd0⟩ := hdigits
      cases hvalue
      exact ⟨p, d2, d1, d0, c, rfl, by simp [hd2, hd1, hd0], hcount.1, hcount.2, rfl, rfl⟩
  · rintro ⟨p, d2, d1, d0, c, rfl, hdigits, hlow, hhigh, rfl, rfl⟩
    have hdigit : ∀ x ∈ [d2, d1, d0], isDigit x = true := fun x hx => isDigit_iff.mpr (hdigits x hx)
    simp only [List.forall_mem_cons] at hdigit
    obtain ⟨hd2, hd1, hd0, -⟩ := hdigit
    rw [parseSrq_append, if_pos ⟨⟨rfl, by simp [hd2, hd1, hd0]⟩, hlow, hhigh⟩]
    rfl

/-- Settles O33, by the terminator and the three slices. -/
theorem parseDataExactly : Obligations.ParseDataExactly := by
  intro r f0 f1 f2
  rw [parseData_eq_some_iff]
  refine and_congr_right fun hlen => and_congr (endsCrLf_iff (by omega)) ?_
  simp [fieldOk_iff, slice_eq_take_drop, and_assoc]

/-- Settles O38: the address set byte by byte, P_START and P_FINISH, and the notice. -/
theorem addressSetAndNotice : Obligations.AddressSetAndNotice := by
  refine ⟨addrValid_iff, fun s x => ⟨fun hseq haddr => ?_, fun hseq => ?_⟩, isNotice_iff⟩
  · obtain ⟨hstart, -, -⟩ := pollBeginsAndEnds s x
    rw [hstart hseq (.inr haddr)]
    exact ⟨rfl, rfl⟩
  · obtain ⟨-, -, hfinish⟩ := pollBeginsAndEnds s x
    rw [hfinish hseq]
    exact ⟨rfl, rfl, rfl⟩

end

section
/-! ## The grammar of a field and the text of a value -/

namespace Sys2Proof.Machine

/-! ### NUMERIC of a field given by its parts -/

theorem isNegative_of_not_hasSign {f : List Byte} (h : hasSign f = false) : isNegative f = false := by
  cases f with
  | nil => rfl
  | cons x t =>
    simp only [hasSign, Bool.or_eq_false_iff] at h
    exact h.2

theorem hasSign_of_isDigit {x : Byte} (h : isDigit x = true) (t : List Byte) : hasSign (x :: t) = false := by
  have hplus : x ≠ 0x2B := by
    rintro rfl
    exact absurd h (by decide)
  have hminus : x ≠ 0x2D := by
    rintro rfl
    exact absurd h (by decide)
  exact Bool.or_eq_false_iff.mpr ⟨beq_eq_false_iff_ne.mpr hplus, beq_eq_false_iff_ne.mpr hminus⟩

/-- What follows the sign of a field that NUMERIC admits does not begin with a sign (R303). -/
theorem hasSign_body {d1 point d2 : List Byte} (hpoint : point = [0x2E] ∨ (point = [] ∧ d2 = []))
    (hd1 : ∀ x ∈ d1, isDigit x = true) : hasSign (d1 ++ (point ++ d2)) = false := by
  cases d1 with
  | nil => rcases hpoint with rfl | ⟨rfl, rfl⟩ <;> rfl
  | cons x t => exact hasSign_of_isDigit (hd1 x List.mem_cons_self) _

theorem takeWhile_isDigit_point {point d2 : List Byte} (hpoint : point = [0x2E] ∨ (point = [] ∧ d2 = [])) :
    (point ++ d2).takeWhile isDigit = [] ∧ (point ++ d2).dropWhile isDigit = point ++ d2 := by
  rcases hpoint with rfl | ⟨rfl, rfl⟩
  · exact ⟨rfl, rfl⟩
  · exact ⟨rfl, rfl⟩

theorem fraction_point {point d2 : List Byte} (hpoint : point = [0x2E] ∨ (point = [] ∧ d2 = []))
    (hd2 : ∀ x ∈ d2, isDigit x = true) : fraction (point ++ d2) = (d2, []) := by
  rcases hpoint with rfl | ⟨rfl, rfl⟩
  · exact Prod.ext (List.takeWhile_eq_self_iff.mpr hd2) (List.dropWhile_eq_nil_iff.mpr hd2)
  · rfl

/-- The sign of a field and what it leaves (R303). -/
theorem sign_append {sign body : List Byte} (hsign : sign = [] ∨ sign = [0x2B] ∨ sign = [0x2D])
    (hbody : hasSign body = false) :
    (if hasSign (sign ++ body) then (sign ++ body).drop 1 else sign ++ body) = body ∧
      isNegative (sign ++ body) = decide (sign = [0x2D]) := by
  rcases hsign with rfl | rfl | rfl
  · exact ⟨by simp [hbody], by simpa using isNegative_of_not_hasSign hbody⟩
  · exact ⟨rfl, rfl⟩
  · exact ⟨rfl, rfl⟩

/-- NUMERIC admits every sign, digits, point and digits with at least one digit (R303). -/
theorem numeric_of_parts {sign d1 point d2 : List Byte} (hsign : sign = [] ∨ sign = [0x2B] ∨ sign = [0x2D])
    (hpoint : point = [0x2E] ∨ (point = [] ∧ d2 = [])) (hdigits : ∀ x ∈ d1 ++ d2, isDigit x = true)
    (hsome : d1 ++ d2 ≠ []) :
    numeric (sign ++ d1 ++ point ++ d2) = some ⟨decide (sign = [0x2D]), decVal (d1 ++ d2), d2.length⟩ := by
  obtain ⟨hd1, hd2⟩ := List.forall_mem_append.mp hdigits
  obtain ⟨hrest, hneg⟩ := sign_append hsign (hasSign_body hpoint hd1)
  obtain ⟨htake, hdrop⟩ := takeWhile_isDigit_point hpoint
  rw [List.append_assoc, List.append_assoc]
  unfold numeric
  simp only [hrest, hneg, List.takeWhile_append_of_pos hd1, List.dropWhile_append_of_pos hd1, htake, hdrop,
    fraction_point hpoint hd2, List.append_nil, ← List.length_append, List.length_eq_zero_iff]
  rw [if_neg (by simpa using hsome)]

/-- A field of at most 8 bytes has at most 8 digits, and a fraction has a point before it (R303, R304). -/
theorem numeric_bounds {f : List Byte} {v : Value} (hf : f.length ≤ 8) (h : numeric f = some v) :
    v.mant ≤ 99999999 ∧ v.scale ≤ 7 := by
  obtain ⟨sign, d1, point, d2, rfl, -, hpoint, hdigits, -, rfl⟩ := numeric_parts h
  simp only [List.length_append] at hf
  have hmant : decVal (d1 ++ d2) < 10 ^ 8 :=
    (decVal_lt_pow hdigits).trans_le (Nat.pow_le_pow_right (by decide) (by rw [List.length_append]; omega))
  refine ⟨Nat.le_of_lt_succ hmant, ?_⟩
  rcases hpoint with rfl | ⟨-, rfl⟩
  · rw [List.length_singleton] at hf
    dsimp only
    omega
  · exact Nat.zero_le 7

/-! ### The digits of the text -/

theorem isDigit_digitByte {d : Nat} (h : d < 10) : isDigit (digitByte d) = true := by
  rw [isDigit_iff, digitByte, BitVec.toNat_ofNat]
  omega

theorem dig_digitByte {d : Nat} (h : d < 10) : dig (digitByte d) = d := by
  rw [dig, digitByte, BitVec.toNat_ofNat]
  omega

theorem decVal_singleton (x : Byte) : decVal [x] = dig x := by
  simp [decVal]

theorem decVal_append (d e : List Byte) : decVal (d ++ e) = decVal d * 10 ^ e.length + decVal e := by
  induction e using List.reverseRecOn with
  | nil => simp [decVal]
  | append_singleton e x ih =>
    rw [← List.append_assoc, decVal_concat, ih, decVal_concat, List.length_append, List.length_singleton, pow_succ]
    ring

theorem isDigit_fixedText (k n : Nat) : ∀ x ∈ fixedText k n, isDigit x = true := by
  induction k generalizing n with
  | zero => simp [fixedText]
  | succ k ih =>
    refine List.forall_mem_append.mpr ⟨ih _, List.forall_mem_singleton.mpr ?_⟩
    exact isDigit_digitByte (Nat.mod_lt n (by decide))

/-- The `k`-digit text reads back as the number it stands for (R308). -/
theorem decVal_fixedText {k n : Nat} (h : n < 10 ^ k) : decVal (fixedText k n) = n := by
  induction k generalizing n with
  | zero =>
    rw [pow_zero, Nat.lt_one_iff] at h
    rw [h]
    rfl
  | succ k ih =>
    have hdiv : n / 10 < 10 ^ k := Nat.div_lt_of_lt_mul (by rwa [pow_succ, mul_comm] at h)
    rw [fixedText, decVal_concat, ih hdiv, dig_digitByte (Nat.mod_lt n (by decide))]
    omega

theorem decimalFuel_digits (fuel n : Nat) :
    decimalFuel fuel n ≠ [] ∧ ∀ x ∈ decimalFuel fuel n, isDigit x = true := by
  induction fuel generalizing n with
  | zero => simp [decimalFuel, isDigit_digitByte (Nat.mod_lt n (by decide : 0 < 10))]
  | succ fuel ih =>
    unfold decimalFuel
    split
    · rename_i hn
      simp [isDigit_digitByte hn]
    · obtain ⟨-, hdigits⟩ := ih (n / 10)
      refine ⟨by simp, List.forall_mem_append.mpr ⟨hdigits, List.forall_mem_singleton.mpr ?_⟩⟩
      exact isDigit_digitByte (Nat.mod_lt n (by decide))

theorem decVal_decimalFuel {fuel n : Nat} (h : n ≤ fuel) : decVal (decimalFuel fuel n) = n := by
  induction fuel generalizing n with
  | zero =>
    rw [Nat.le_zero.mp h]
    rfl
  | succ fuel ih =>
    unfold decimalFuel
    split
    · rename_i hn
      rw [decVal_singleton, dig_digitByte hn]
    · rw [decVal_concat, ih (by omega), dig_digitByte (Nat.mod_lt n (by decide))]
      omega

/-- `decimal(I)` reads back as `I` (R308). -/
theorem decVal_decimalText (n : Nat) : decVal (decimalText n) = n :=
  decVal_decimalFuel le_rfl

/-- What is cut from a run of digits is zeros, and one zero stays of zeros alone (R308). -/
theorem trimZeros_cases (fs : List Byte) :
    ∃ t z : List Byte, fs = t ++ z ∧ (∀ x ∈ z, x = 0x30) ∧
      ((t = [] ∧ trimZeros fs = [0x30]) ∨ trimZeros fs = t) := by
  refine ⟨fs.rdropWhile (· == 0x30), fs.rtakeWhile (· == 0x30), List.rdropWhile_append_rtakeWhile.symm, ?_, ?_⟩
  · intro x hx
    have hzero := List.mem_rtakeWhile_imp hx
    exact eq_of_beq hzero
  · unfold trimZeros
    split
    · rename_i hnil
      exact .inl ⟨hnil, rfl⟩
    · exact .inr rfl

theorem isDigit_trimZeros {fs : List Byte} (h : ∀ x ∈ fs, isDigit x = true) :
    ∀ x ∈ trimZeros fs, isDigit x = true := by
  obtain ⟨t, z, rfl, -, ⟨-, htrim⟩ | htrim⟩ := trimZeros_cases fs
  · rw [htrim]
    decide
  · rw [htrim]
    exact (List.forall_mem_append.mp h).1

theorem decVal_zeros {z : List Byte} (h : ∀ x ∈ z, x = 0x30) : decVal z = 0 := by
  induction z using List.reverseRecOn with
  | nil => rfl
  | append_singleton z x ih =>
    obtain ⟨hz, hx⟩ := List.forall_mem_append.mp h
    rw [decVal_concat, ih hz, hx x (List.mem_singleton_self x)]
    rfl

/-- As a fraction of one, a run of digits is unchanged by removing its trailing zeros (R308). -/
theorem decVal_trimZeros (fs : List Byte) :
    decVal (trimZeros fs) * 10 ^ fs.length = decVal fs * 10 ^ (trimZeros fs).length := by
  obtain ⟨t, z, hfs, hzeros, htrim⟩ := trimZeros_cases fs
  have hval : decVal fs = decVal t * 10 ^ z.length := by
    rw [hfs, decVal_append, decVal_zeros hzeros, Nat.add_zero]
  have hlen : fs.length = t.length + z.length := by rw [hfs, List.length_append]
  rcases htrim with ⟨rfl, htrim⟩ | htrim
  · rw [hval, htrim, decVal_singleton]
    simp [decVal, dig]
  · rw [hval, hlen, htrim, pow_add]
    ring

/-- The text of a value reads back as a sign, a mantissa without trailing zeros in its fraction, and a scale (R303, R308). -/
theorem numeric_formatValue (v : Value) :
    numeric (formatValue v) =
      some ⟨v.neg,
        decVal (decimalText (v.mant / 10 ^ v.scale) ++ trimZeros (fixedText v.scale (v.mant % 10 ^ v.scale))),
        (trimZeros (fixedText v.scale (v.mant % 10 ^ v.scale))).length⟩ := by
  obtain ⟨hsome, hint⟩ := decimalFuel_digits (v.mant / 10 ^ v.scale) (v.mant / 10 ^ v.scale)
  have hfrac := isDigit_trimZeros (isDigit_fixedText v.scale (v.mant % 10 ^ v.scale))
  have hneg : decide ((if v.neg then [0x2D] else [] : List Byte) = [0x2D]) = v.neg := by cases v.neg <;> rfl
  have hparts := numeric_of_parts (sign := if v.neg then [0x2D] else []) (by cases v.neg <;> simp) (.inl rfl)
    (List.forall_mem_append.mpr ⟨hint, hfrac⟩) (List.append_ne_nil_of_left_ne_nil hsome _)
  rw [hneg] at hparts
  exact hparts

theorem magnitude_formatted (v : Value) :
    let fs := trimZeros (fixedText v.scale (v.mant % 10 ^ v.scale))
    magnitude ⟨v.neg, decVal (decimalText (v.mant / 10 ^ v.scale) ++ fs), fs.length⟩ = magnitude v := by
  intro fs
  have hfs : decVal fs * 10 ^ v.scale = v.mant % 10 ^ v.scale * 10 ^ fs.length := by
    have h := decVal_trimZeros (fixedText v.scale (v.mant % 10 ^ v.scale))
    rwa [fixedText_length, decVal_fixedText (Nat.mod_lt _ (by positivity))] at h
  have hnat : decVal (decimalText (v.mant / 10 ^ v.scale) ++ fs) * 10 ^ v.scale = v.mant * 10 ^ fs.length := by
    rw [decVal_append, decVal_decimalText]
    calc (v.mant / 10 ^ v.scale * 10 ^ fs.length + decVal fs) * 10 ^ v.scale
        = (10 ^ v.scale * (v.mant / 10 ^ v.scale)) * 10 ^ fs.length + decVal fs * 10 ^ v.scale := by ring
      _ = (10 ^ v.scale * (v.mant / 10 ^ v.scale) + v.mant % 10 ^ v.scale) * 10 ^ fs.length := by rw [hfs, add_mul]
      _ = v.mant * 10 ^ fs.length := by rw [Nat.div_add_mod]
  rw [magnitude, magnitude, div_eq_div_iff (by positivity) (by positivity)]
  exact_mod_cast hnat

end Sys2Proof.Machine

open Sys2Proof Sys2Proof.Machine

/-- Settles O34: the parts of an admitted field, and a field made of parts. -/
theorem numericGrammar : Obligations.NumericGrammar := by
  refine ⟨fun f v => ⟨fun h => ?_, ?_⟩, fun f v => numeric_bounds, rfl, decVal_concat⟩
  · obtain ⟨sign, d1, point, d2, hf, hsign, hpoint, hdigits, hsome, rfl⟩ := numeric_parts h
    exact ⟨sign, d1, point, d2, hf, hsign, hpoint, fun x hx => isDigit_iff.mp (hdigits x hx), hsome, rfl, rfl, rfl⟩
  · rintro ⟨sign, d1, point, d2, rfl, hsign, hpoint, hdigits, hsome, hneg, hmant, hscale⟩
    rw [numeric_of_parts hsign hpoint (fun x hx => isDigit_iff.mpr (hdigits x hx)) hsome, ← hneg, ← hmant, ← hscale]

/-- Settles O35, by the bound of one text. -/
theorem rawTextFitsTheWindow : Obligations.RawTextFitsTheWindow := by
  refine ⟨fun f v => formatValue_length_of_numeric, fun a f v h => formatRaw_length_le ?_⟩
  have htext : ∀ j, j < 6 → (formatValue (six v j)).length ≤ 10 := fun j hj =>
    formatValue_length_of_numeric (h j hj).1 (h j hj).2
  exact six_forall (p := fun x => (formatValue x).length ≤ 10) (htext 0 (by decide)) (htext 1 (by decide))
    (htext 2 (by decide)) (htext 3 (by decide)) (htext 4 (by decide)) (htext 5 (by decide))

/-- Settles O36, by the parts of the text. -/
theorem formattedTextReadsBack : Obligations.FormattedTextReadsBack :=
  fun v => ⟨_, numeric_formatValue v, rfl, magnitude_formatted v⟩

end

section
/-! ## The binary64 number of a value -/

namespace Sys2Proof.Machine

/-! ### Rounding -/

theorem roundDiv_cases (n d : Nat) :
    (roundDiv n d = n / d ∧ 2 * (n % d) ≤ d) ∨ (roundDiv n d = n / d + 1 ∧ d ≤ 2 * (n % d)) := by
  unfold roundDiv
  split_ifs <;> omega

theorem roundDiv_even_of_tie {n d : Nat} (h : 2 * (n % d) = d) : roundDiv n d % 2 = 0 := by
  rw [roundDiv, if_neg (by omega), if_neg (by omega)]
  split_ifs <;> omega

/-- Off a tie the rounding is less than half a unit away (R305). -/
theorem abs_roundDiv_sub_lt_half {n d : Nat} (hd : 0 < d) (htie : 2 * (n % d) ≠ d) :
    |(roundDiv n d : ℚ) - n / d| < 1 / 2 := by
  have hd' : (0 : ℚ) < d := by exact_mod_cast hd
  have hn : (n : ℚ) = d * (n / d : ℕ) + (n % d : ℕ) := by exact_mod_cast (Nat.div_add_mod n d).symm
  have hlt : ((n % d : ℕ) : ℚ) < d := by exact_mod_cast Nat.mod_lt n hd
  have hquot : (n : ℚ) / d = (n / d : ℕ) + (n % d : ℕ) / d := by
    rw [hn]
    field_simp
  rcases roundDiv_cases n d with ⟨hround, hle⟩ | ⟨hround, hle⟩
  · have hfrac : ((n % d : ℕ) : ℚ) / d < 1 / 2 := by
      rw [div_lt_div_iff₀ hd' two_pos]
      exact_mod_cast (by omega : n % d * 2 < 1 * d)
    have hnonneg : (0 : ℚ) ≤ ((n % d : ℕ) : ℚ) / d := by positivity
    rw [hround, hquot, abs_lt]
    constructor <;> linarith
  · have hfrac : (1 : ℚ) / 2 < ((n % d : ℕ) : ℚ) / d := by
      rw [div_lt_div_iff₀ two_pos hd']
      exact_mod_cast (by omega : 1 * d < n % d * 2)
    have hone : ((n % d : ℕ) : ℚ) / d < 1 := by rwa [div_lt_one hd']
    rw [hround, hquot, abs_lt]
    push_cast
    constructor <;> linarith

/-- Off a tie every other natural is farther away than the rounding (R305). -/
theorem roundDiv_nearest {n d j : Nat} (hd : 0 < d) (htie : 2 * (n % d) ≠ d) (hj : j ≠ roundDiv n d) :
    |(roundDiv n d : ℚ) - n / d| < |(j : ℚ) - n / d| := by
  have hround := abs_roundDiv_sub_lt_half hd htie
  have hone : (1 : ℚ) ≤ |(j : ℚ) - roundDiv n d| := by
    exact_mod_cast Int.one_le_abs (sub_ne_zero.mpr (Nat.cast_injective.ne hj : (j : ℤ) ≠ roundDiv n d))
  have htri := abs_sub_le (j : ℚ) (n / d) (roundDiv n d)
  rw [abs_sub_comm (n / d : ℚ)] at htri
  linarith

theorem roundDiv_le_of_le {n d : Nat} (hd : 0 < d) {b : Nat} (h : b * d ≤ n) : b ≤ roundDiv n d := by
  have hq : b ≤ n / d := (Nat.le_div_iff_mul_le hd).mpr h
  rcases roundDiv_cases n d with ⟨hround, -⟩ | ⟨hround, -⟩ <;> omega

theorem roundDiv_le_of_lt {n d : Nat} (hd : 0 < d) {b : Nat} (h : n < b * d) : roundDiv n d ≤ b := by
  have hq : n / d < b := (Nat.div_lt_iff_lt_mul hd).mpr h
  rcases roundDiv_cases n d with ⟨hround, -⟩ | ⟨hround, -⟩ <;> omega

/-! ### The shift -/

/-- The shift brings `m / d` into `[2^52, 2^53)` (R305). -/
theorem f64Shift_spec {m d : Nat} (hm : 0 < m) (hd : 0 < d) (hlog : m.log2 ≤ 52 + d.log2) :
    2 ^ 52 * d ≤ m * 2 ^ f64Shift m d ∧ m * 2 ^ f64Shift m d < 2 ^ 53 * d := by
  have hm1 : 2 ^ m.log2 ≤ m := Nat.log2_self_le hm.ne'
  have hm2 : m < 2 ^ (m.log2 + 1) := Nat.lt_log2_self
  have hd1 : 2 ^ d.log2 ≤ d := Nat.log2_self_le hd.ne'
  have hd2 : d < 2 ^ (d.log2 + 1) := Nat.lt_log2_self
  have hpow : 2 ^ m.log2 * 2 ^ (52 + d.log2 - m.log2) = 2 ^ 52 * 2 ^ d.log2 := by
    rw [← pow_add, ← pow_add, Nat.add_sub_of_le hlog]
  have hlow : 2 ^ 52 * d ≤ 2 * (m * 2 ^ (52 + d.log2 - m.log2)) :=
    calc 2 ^ 52 * d ≤ 2 ^ 52 * 2 ^ (d.log2 + 1) := by gcongr
      _ = 2 * (2 ^ m.log2 * 2 ^ (52 + d.log2 - m.log2)) := by rw [hpow, pow_succ]; ring
      _ ≤ 2 * (m * 2 ^ (52 + d.log2 - m.log2)) := by gcongr
  have hhigh : m * 2 ^ (52 + d.log2 - m.log2) < 2 ^ 53 * d :=
    calc m * 2 ^ (52 + d.log2 - m.log2) < 2 ^ (m.log2 + 1) * 2 ^ (52 + d.log2 - m.log2) := by gcongr
      _ = 2 ^ 53 * 2 ^ d.log2 := by rw [pow_succ, mul_right_comm, hpow]; ring
      _ ≤ 2 ^ 53 * d := by gcongr
  unfold f64Shift
  dsimp only
  split
  · rename_i hsmall
    rw [Nat.div_lt_iff_lt_mul hd] at hsmall
    have hdouble : m * 2 ^ (52 + d.log2 - m.log2 + 1) = 2 * (m * 2 ^ (52 + d.log2 - m.log2)) := by
      rw [pow_succ]
      ring
    rw [hdouble]
    exact ⟨hlow, by omega⟩
  · rename_i hlarge
    rw [Nat.div_lt_iff_lt_mul hd] at hlarge
    exact ⟨by omega, hhigh⟩

theorem f64Shift_bounds {m d : Nat} (hm : m.log2 ≤ 26) (hd : d.log2 ≤ 23) :
    26 ≤ f64Shift m d ∧ f64Shift m d ≤ 76 := by
  unfold f64Shift
  dsimp only
  split <;> omega

/-- A tie needs more factors of two in the divisor than the shift leaves there (R305). -/
theorem no_tie_of_scale_le_shift {m s k : Nat} (h : s ≤ k) : 2 * (m * 2 ^ k % 10 ^ s) ≠ 10 ^ s := by
  intro htie
  obtain ⟨i, rfl⟩ := Nat.exists_eq_add_of_le h
  have hsplit := Nat.div_add_mod (m * 2 ^ (s + i)) (10 ^ s)
  generalize m * 2 ^ (s + i) / 10 ^ s = q at hsplit
  have hten : 10 ^ s = 2 ^ s * 5 ^ s := mul_pow 2 5 s
  have heq : 2 ^ s * (5 ^ s * (2 * q + 1)) = 2 ^ s * (2 * (m * 2 ^ i)) :=
    calc 2 ^ s * (5 ^ s * (2 * q + 1)) = 2 * (10 ^ s * q) + 10 ^ s := by rw [hten]; ring
      _ = 2 * (m * 2 ^ (s + i)) := by omega
      _ = 2 ^ s * (2 * (m * 2 ^ i)) := by rw [pow_add]; ring
  have hodd : Odd (5 ^ s * (2 * q + 1)) := (Odd.pow (by decide)).mul ⟨q, rfl⟩
  rw [Nat.eq_of_mul_eq_mul_left (by positivity) heq] at hodd
  exact Nat.not_even_iff_odd.mpr hodd ⟨m * 2 ^ i, two_mul _⟩

/-! ### The finite binary64 magnitudes in units of the smallest -/

/-- A finite binary64 magnitude in units of `2^-1074`, by the number its 63 bits spell (R305). -/
def f64Units (n : Nat) : Nat :=
  if n / 2 ^ 52 = 0 then n % 2 ^ 52 else (2 ^ 52 + n % 2 ^ 52) * 2 ^ (n / 2 ^ 52 - 1)

theorem f64Rational_eq (y : BitVec 63) : f64Rational y = f64Units y.toNat / 2 ^ 1074 := by
  unfold f64Rational f64Units
  split
  · rfl
  · rename_i he
    obtain ⟨e, he⟩ := Nat.exists_eq_succ_of_ne_zero he
    rw [he, Nat.succ_sub_one, show (2 : ℚ) ^ 1075 = 2 ^ 1074 * 2 from pow_succ 2 1074, pow_succ _ e, ← mul_assoc,
      mul_div_mul_right _ _ two_ne_zero]
    push_cast
    rfl

theorem f64Units_exponent {e c : Nat} (hc : c < 2 ^ 52) : f64Units ((e + 1) * 2 ^ 52 + c) = (2 ^ 52 + c) * 2 ^ e := by
  have hdiv : ((e + 1) * 2 ^ 52 + c) / 2 ^ 52 = e + 1 := by omega
  have hmod : ((e + 1) * 2 ^ 52 + c) % 2 ^ 52 = c := by omega
  rw [f64Units, hdiv, hmod, if_neg (Nat.succ_ne_zero e), Nat.add_sub_cancel]

theorem f64Units_subnormal {c : Nat} (hc : c < 2 ^ 52) : f64Units c = c := by
  rw [f64Units, if_pos (Nat.div_eq_of_lt hc), Nat.mod_eq_of_lt hc]

/-- Exponent and significand packed by addition, a significand of `2^53` carrying into the exponent (R305). -/
theorem f64Units_packed {u q : Nat} (hlow : 2 ^ 52 ≤ q) (hhigh : q ≤ 2 ^ 53) :
    f64Units (u * 2 ^ 52 + q) = q * 2 ^ u := by
  rcases Nat.lt_or_eq_of_le hhigh with hlt | rfl
  · rw [show u * 2 ^ 52 + q = (u + 1) * 2 ^ 52 + (q - 2 ^ 52) by omega, f64Units_exponent (by omega),
      Nat.add_sub_of_le hlow]
  · rw [show u * 2 ^ 52 + 2 ^ 53 = (u + 1 + 1) * 2 ^ 52 + 0 by omega, f64Units_exponent (by decide), pow_succ]
    ring

theorem exists_exponent {n : Nat} (h : 2 ^ 52 ≤ n) : ∃ e c : Nat, n = (e + 1) * 2 ^ 52 + c ∧ c < 2 ^ 52 :=
  ⟨n / 2 ^ 52 - 1, n % 2 ^ 52, by omega, Nat.mod_lt n (by decide)⟩

/-- The magnitudes are in the order of the numbers their bits spell. -/
theorem f64Units_strictMono : StrictMono f64Units := by
  refine strictMono_nat_of_lt_succ fun n => ?_
  by_cases hn : 2 ^ 52 ≤ n
  · obtain ⟨e, c, rfl, hc⟩ := exists_exponent hn
    rw [f64Units_exponent hc, show (e + 1) * 2 ^ 52 + c + 1 = e * 2 ^ 52 + (2 ^ 52 + c + 1) by omega,
      f64Units_packed (by omega) (by omega)]
    exact Nat.mul_lt_mul_of_pos_right (by omega) (by positivity)
  · rw [f64Units_subnormal (by omega)]
    have hnext := f64Units_packed (u := 0) (q := 2 ^ 52) le_rfl (by decide)
    by_cases hlast : n + 1 < 2 ^ 52
    · rw [f64Units_subnormal hlast]
      omega
    · rw [show n + 1 = 0 * 2 ^ 52 + 2 ^ 52 by omega, hnext]
      omega

/-- From the exponent `u + 1` on, the magnitudes are multiples of `2^u`. -/
theorem f64Units_multiple {u n : Nat} (h : (u + 1) * 2 ^ 52 ≤ n) : ∃ j, f64Units n = j * 2 ^ u := by
  obtain ⟨e, c, rfl, hc⟩ := exists_exponent (n := n) (by omega)
  obtain ⟨i, rfl⟩ := Nat.exists_eq_add_of_le (show u ≤ e by omega)
  exact ⟨(2 ^ 52 + c) * 2 ^ i, by rw [f64Units_exponent hc, pow_add]; ring⟩

theorem f64Units_lt_of_exponent_lt {u n : Nat} (h : n < (u + 1) * 2 ^ 52) : f64Units n < 2 ^ 52 * 2 ^ u := by
  rw [← f64Units_packed (u := u) le_rfl (by decide)]
  exact f64Units_strictMono (by omega)

/-! ### The nearest -/

/-- Every other magnitude is farther from `n / d` than the packed rounding, both in units of `2^u`: it is another multiple
of the unit, or it is below the significands (R305). -/
theorem f64Units_nearest {n d u y : Nat} (hd : 0 < d) (hlow : 2 ^ 52 * d ≤ n) (hhigh : n < 2 ^ 53 * d)
    (htie : 2 * (n % d) ≠ d) (hy : y ≠ u * 2 ^ 52 + roundDiv n d) :
    |(f64Units (u * 2 ^ 52 + roundDiv n d) : ℚ) / 2 ^ u - n / d| < |(f64Units y : ℚ) / 2 ^ u - n / d| := by
  have hpacked := f64Units_packed (u := u) (roundDiv_le_of_le hd hlow) (roundDiv_le_of_lt hd hhigh)
  have hunit : ∀ j : Nat, ((j * 2 ^ u : ℕ) : ℚ) / 2 ^ u = j := fun j => by
    push_cast
    exact mul_div_cancel_right₀ _ (by positivity)
  by_cases hexp : (u + 1) * 2 ^ 52 ≤ y
  · obtain ⟨j, hj⟩ := f64Units_multiple hexp
    have hne : j ≠ roundDiv n d := by
      rintro rfl
      exact hy (f64Units_strictMono.injective (hj.trans hpacked.symm))
    rw [hpacked, hj, hunit, hunit]
    exact roundDiv_nearest hd htie hne
  · have hbelow : (f64Units y : ℚ) / 2 ^ u < 2 ^ 52 := by
      rw [div_lt_iff₀ (by positivity)]
      exact_mod_cast f64Units_lt_of_exponent_lt (Nat.lt_of_not_le hexp)
    have habove : (2 : ℚ) ^ 52 ≤ n / d := by
      rw [le_div_iff₀ (by exact_mod_cast hd)]
      exact_mod_cast hlow
    have hround : |(roundDiv n d : ℚ) - n / d| ≤ |((2 ^ 52 : ℕ) : ℚ) - n / d| := by
      by_cases hq : 2 ^ 52 = roundDiv n d
      · rw [hq]
      · exact (roundDiv_nearest hd htie hq).le
    rw [hpacked, hunit]
    refine hround.trans_lt ?_
    push_cast
    rw [abs_of_nonpos (by linarith), abs_of_nonpos (by linarith)]
    linarith

/-! ### The word -/

theorem f64Word_neg (v : Value) : (f64Word v).getLsbD 63 = v.neg := by
  rw [f64Word, BitVec.getLsbD_append, if_neg (by decide)]
  cases v.neg <;> rfl

theorem f64Word_setWidth (v : Value) : (f64Word v).setWidth 63 = BitVec.ofNat 63 (f64Magnitude v.mant (10 ^ v.scale)) :=
  BitVec.setWidth_append_eq_right

theorem f64Magnitude_zero (d : Nat) : f64Magnitude 0 d = 0 :=
  if_pos rfl

theorem f64Word_of_mant_zero {v : Value} (h : v.mant = 0) :
    f64Word v = if v.neg then 0x8000000000000000 else 0 := by
  rw [f64Word, h, f64Magnitude_zero]
  cases v.neg <;> rfl

/-- The exponent, the significand and the shift of a value that NUMERIC can give (R303, R305). -/
theorem f64Magnitude_packed {m s : Nat} (hm0 : m ≠ 0) (hm : m ≤ 99999999) (hs : s ≤ 7) :
    ∃ u k : Nat, f64Magnitude m (10 ^ s) = u * 2 ^ 52 + roundDiv (m * 2 ^ k) (10 ^ s) ∧ u + k = 1074 ∧
      0 < u ∧ s ≤ k ∧ 2 ^ 52 * 10 ^ s ≤ m * 2 ^ k ∧ m * 2 ^ k < 2 ^ 53 * 10 ^ s := by
  have hten : 0 < 10 ^ s := by positivity
  have hmlog : m.log2 ≤ 26 := Nat.le_of_lt_succ ((Nat.log2_lt hm0).mpr (by omega))
  have hdlog : (10 ^ s).log2 ≤ 23 :=
    Nat.le_of_lt_succ ((Nat.log2_lt hten.ne').mpr ((Nat.pow_le_pow_right (by decide) hs).trans_lt (by decide)))
  obtain ⟨hlow, hhigh⟩ := f64Shift_spec (Nat.pos_of_ne_zero hm0) hten (by omega)
  obtain ⟨hk1, hk2⟩ := f64Shift_bounds hmlog hdlog
  exact ⟨1074 - f64Shift m (10 ^ s), f64Shift m (10 ^ s), if_neg hm0, by omega, by omega, by omega, hlow, hhigh⟩

/-- The magnitude of a value other than zero is a finite normal number (R305). -/
theorem f64Magnitude_normal {m s : Nat} (hm0 : m ≠ 0) (hm : m ≤ 99999999) (hs : s ≤ 7) :
    0 < f64Magnitude m (10 ^ s) / 2 ^ 52 ∧ f64Magnitude m (10 ^ s) / 2 ^ 52 < 2047 := by
  obtain ⟨u, k, hM, hsum, -, -, hlow, hhigh⟩ := f64Magnitude_packed hm0 hm hs
  have hten : 0 < 10 ^ s := by positivity
  have hq1 := roundDiv_le_of_le hten hlow
  have hq2 := roundDiv_le_of_lt hten hhigh
  omega

theorem f64Magnitude_finite {m s : Nat} (hm : m ≤ 99999999) (hs : s ≤ 7) :
    f64Magnitude m (10 ^ s) / 2 ^ 52 < 2047 := by
  by_cases hm0 : m = 0
  · rw [hm0, f64Magnitude_zero]
    decide
  · exact (f64Magnitude_normal hm0 hm hs).2

theorem f64Word_toNat {v : Value} (hm : v.mant ≤ 99999999) (hs : v.scale ≤ 7) :
    ((f64Word v).setWidth 63).toNat = f64Magnitude v.mant (10 ^ v.scale) := by
  have hfinite := f64Magnitude_finite hm hs
  rw [f64Word_setWidth, BitVec.toNat_ofNat]
  exact Nat.mod_eq_of_lt (by omega)

/-- A distance in units of `2^u`, back in its own scale. -/
theorem abs_units_sub (y m d : Nat) {u k : Nat} (h : u + k = 1074) :
    |(f64Units y : ℚ) / 2 ^ 1074 - m / d| = |(f64Units y : ℚ) / 2 ^ u - (m * 2 ^ k : ℕ) / d| / 2 ^ k := by
  have hscale : (f64Units y : ℚ) / 2 ^ 1074 - m / d =
      ((f64Units y : ℚ) / 2 ^ u - (m * 2 ^ k : ℕ) / d) / 2 ^ k := by
    rw [← h, pow_add]
    push_cast
    field_simp
  rw [hscale, abs_div, abs_of_pos (by positivity : (0 : ℚ) < 2 ^ k)]

/-- Every other magnitude is farther from the value (R305). -/
theorem f64Magnitude_nearest {m s y : Nat} (hm : m ≤ 99999999) (hs : s ≤ 7) (hy : y ≠ f64Magnitude m (10 ^ s)) :
    |(f64Units (f64Magnitude m (10 ^ s)) : ℚ) / 2 ^ 1074 - m / (10 ^ s : ℕ)| <
      |(f64Units y : ℚ) / 2 ^ 1074 - m / (10 ^ s : ℕ)| := by
  by_cases hm0 : m = 0
  · rw [hm0, f64Magnitude_zero] at hy ⊢
    have hpos : 0 < f64Units y := f64Units_strictMono (Nat.pos_of_ne_zero hy)
    rw [f64Units_subnormal (by decide), Nat.cast_zero, zero_div, zero_div, sub_zero, sub_zero, abs_zero]
    exact abs_pos.mpr (by positivity)
  · obtain ⟨u, k, hM, hsum, -, hk, hlow, hhigh⟩ := f64Magnitude_packed hm0 hm hs
    rw [abs_units_sub _ m _ hsum, abs_units_sub y m _ hsum]
    rw [hM] at hy ⊢
    exact div_lt_div_of_pos_right
      (f64Units_nearest (by positivity) hlow hhigh (no_tie_of_scale_le_shift hk) hy) (by positivity)

end Sys2Proof.Machine

open Sys2Proof Sys2Proof.Machine

/-- Settles O37: the distances in units of the rounding, and the two sides of the rounding. -/
theorem f64IsTheNearestBinary64 : Obligations.F64IsTheNearestBinary64 := by
  refine ⟨fun v hm hs => ⟨f64Word_neg v, f64Word_of_mant_zero, fun hm0 => ?_, ?_, fun y _ hy => ?_⟩,
    fun n d => ⟨?_, roundDiv_even_of_tie⟩⟩
  · rw [f64Word_toNat hm hs]
    exact (f64Magnitude_normal hm0 hm hs).1
  · rw [f64Word_toNat hm hs]
    exact f64Magnitude_finite hm hs
  · have hne : y.toNat ≠ f64Magnitude v.mant (10 ^ v.scale) := by
      rw [← f64Word_toNat hm hs]
      exact BitVec.toNat_inj.not.mpr hy
    have hnear := f64Magnitude_nearest hm hs hne
    rw [← f64Word_toNat hm hs, ← f64Rational_eq, ← f64Rational_eq] at hnear
    simpa [magnitude] using hnear
  · rcases roundDiv_cases n d with ⟨hround, -⟩ | ⟨hround, -⟩
    · exact .inl hround
    · exact .inr hround

end

section
/-! ## A cycle of reset -/

namespace Sys2Proof.Machine

/-- A cycle of reset takes the parameters, the inputs and the count of free draws from the state before it, and nothing
else (R370, R372). -/
theorem resetCycle_eq (s : State) :
    resetCycle s =
      { State.reset with
        params := s.params, host := s.host.tail, rxd := s.rxd.tail, draws := s.draws + 1 } := rfl

end Sys2Proof.Machine

open Sys2Proof Sys2Proof.Machine

/-- Settles O8: the host's coming cycle is one of reset, so the step is the cycle of reset and the pins are forced. -/
theorem resetAbandonsEverything : Obligations.ResetAbandonsEverything := by
  intro s acc rest hhost
  have hnow : hostNow s = ⟨false, acc⟩ := by rw [hostNow, hhost, List.headD_cons]
  have hreset : (hostNow s).rstN = false := by rw [hnow]
  refine ⟨?_, pins_reset hreset⟩
  rw [step_reset hreset, resetCycle_eq, hhost, List.tail_cons]

end
